-- ==== Sys2Proof/Word.lean ====
section
/-! DEFINITION. The word types of the S-DES CORE and their names (00_scope.md R6, R10).
All values are unsigned and bits are numbered from 0 at the least significant end (R10), which is BitVec's own numbering. -/

namespace Sys2Proof

/-- A register of the host interface, 32 bits (20_memory.md R50). -/
abbrev Word := BitVec 32
/-- A byte of a stream, a subkey, an expanded half (00_scope.md R6: SUBKEY_BITS, EXPAND_BITS). -/
abbrev Byte := BitVec 8
/-- One 6-bit half of a block (R6: HALF_BITS). -/
abbrev Half := BitVec 6
/-- A 12-bit block (R6: BLOCK_BITS). -/
abbrev Block := BitVec 12
/-- A 24-bit group of two blocks (R6: GROUP_BYTES). -/
abbrev Group := BitVec 24
/-- The 9-bit master key (R6: KEY_BITS). -/
abbrev Key := BitVec 9

end Sys2Proof
end

