-- ==== Sys2Proof/Syntax.lean ====
section
/-! DEFINITION. The commands of the CORE, one constructor per row of spec/opcode_table.json (30_encoding.md R71). -/

namespace Sys2Proof

/-- A command (30_encoding.md R71). FEISTELK and ROUNDK carry the round-key index IDX, a 4-bit field of which
0 to 8 are legal (R72); no other command has an operand field. -/
inductive Instr where
  | nop
  | keygen
  | expand
  | confuse
  | feistel
  | feistelk (idx : BitVec 4)
  | round
  | roundk (idx : BitVec 4)
  | hswap
  | encblk
  | decblk
  | padcnt
  | encgrp
  | decgrp
  | encode
  | decode
  | clr
deriving DecidableEq, Repr

/-- The opcode OP of each command (30_encoding.md R71). -/
def Instr.opcode : Instr → BitVec 4
  | .nop => 0x0
  | .keygen => 0x1
  | .expand => 0x2
  | .confuse => 0x3
  | .feistel => 0x4
  | .feistelk _ => 0x4
  | .round => 0x5
  | .roundk _ => 0x5
  | .hswap => 0x6
  | .encblk => 0x7
  | .decblk => 0x8
  | .padcnt => 0x9
  | .encgrp => 0xA
  | .decgrp => 0xB
  | .encode => 0xC
  | .decode => 0xD
  | .clr => 0xE

/-- The stream commands, which alone take more than one step (60_exceptions.md R204). -/
def Instr.isStream : Instr → Bool
  | .encode | .decode => true
  | .nop | .keygen | .expand | .confuse | .feistel | .feistelk _ | .round | .roundk _ | .hswap | .encblk | .decblk
  | .padcnt | .encgrp | .decgrp | .clr => false

end Sys2Proof
end

