-- ==== Sys2Proof/WellFormed.lean ====
section
/-! DEFINITION. Which commands have an encoding: the round-key index of FEISTELK and ROUNDK is at most 8 (30_encoding.md R72). -/

namespace Sys2Proof

/-- IDX "is an unsigned 4-bit index that must be at most 8" (30_encoding.md R72). -/
def legalIdx (idx : BitVec 4) : Bool := decide (idx.toNat ≤ 8)

/-- A command the encoding of 30_encoding.md can express. -/
def Instr.wellFormed : Instr → Bool
  | .feistelk idx => legalIdx idx
  | .roundk idx => legalIdx idx
  | .nop | .keygen | .expand | .confuse | .feistel | .round | .hswap | .encblk | .decblk
  | .padcnt | .encgrp | .decgrp | .encode | .decode | .clr => true

end Sys2Proof
end

