-- ==== Sys2Proof/Decode.lean ====
section
/-! DEFINITION. Decoding a command word, total on every 32-bit word and rejecting by name (30_encoding.md R70 to R76), and
after it the encoder (R70, R71, R79). -/

namespace Sys2Proof

/-- Why a word is ILLEGAL (30_encoding.md R75). The CORE records only ERR = ILLEGAL, whichever it is. -/
inductive Illegal where
  /-- OP = 0xF, "reserved and always ILLEGAL, whatever its other bits". -/
  | reservedOpcode
  /-- A nonzero reserved bit: bits [31:4], or for OP 4 and 5 bits [7:5] and [31:12]. -/
  | reservedBits
  /-- IDX != 0 with KSEL = 0. -/
  | idxWithoutKsel
  /-- IDX > 8 with KSEL = 1. -/
  | idxAboveEight
deriving DecidableEq, Repr

/-- OP, bits [3:0] (30_encoding.md R70). -/
def fieldOp (w : Word) : BitVec 4 := w.extractLsb' 0 4
/-- KSEL, bit [4]. -/
def fieldKsel (w : Word) : Bool := w.getLsbD 4
/-- The reserved bits [7:5]. -/
def fieldRsvLow (w : Word) : BitVec 3 := w.extractLsb' 5 3
/-- IDX, bits [11:8]. -/
def fieldIdx (w : Word) : BitVec 4 := w.extractLsb' 8 4
/-- The reserved bits [31:12]. -/
def fieldRsvHigh (w : Word) : BitVec 20 := w.extractLsb' 12 20
/-- Bits [31:4], all reserved for every OP other than 0x4 and 0x5. -/
def fieldAboveOp (w : Word) : BitVec 28 := w.extractLsb' 4 28

/-- OP 0x4 and 0x5: subkey from SK when KSEL = 0 (IDX must be 0), from RK[IDX] when KSEL = 1 (IDX at most 8);
bits [7:5] and [31:12] must be 0 (30_encoding.md R72, R74). -/
def decodeKeyed (w : Word) (fromSk : Instr) (fromRk : BitVec 4 → Instr) : Except Illegal Instr :=
  if fieldRsvLow w = 0 ∧ fieldRsvHigh w = 0 then
    if fieldKsel w then
      if legalIdx (fieldIdx w) then .ok (fromRk (fieldIdx w)) else .error .idxAboveEight
    else if fieldIdx w = 0 then .ok fromSk else .error .idxWithoutKsel
  else .error .reservedBits

/-- Every other OP but 0xF: bits [31:4] must be 0 (30_encoding.md R74). -/
def decodePlain (w : Word) (i : Instr) : Except Illegal Instr :=
  if fieldAboveOp w = 0 then .ok i else .error .reservedBits

/-- The decoder (30_encoding.md R71, R74). -/
def decode (w : Word) : Except Illegal Instr :=
  match (fieldOp w).toNat with
  | 0x0 => decodePlain w .nop
  | 0x1 => decodePlain w .keygen
  | 0x2 => decodePlain w .expand
  | 0x3 => decodePlain w .confuse
  | 0x4 => decodeKeyed w .feistel .feistelk
  | 0x5 => decodeKeyed w .round .roundk
  | 0x6 => decodePlain w .hswap
  | 0x7 => decodePlain w .encblk
  | 0x8 => decodePlain w .decblk
  | 0x9 => decodePlain w .padcnt
  | 0xA => decodePlain w .encgrp
  | 0xB => decodePlain w .decgrp
  | 0xC => decodePlain w .encode
  | 0xD => decodePlain w .decode
  | 0xE => decodePlain w .clr
  | _ => .error .reservedOpcode

/-- The instruction the decoder reads from the `nbits` low bits of `w`, the bits above being 0. A command is always
one 32-bit word (30_encoding.md R70). -/
def decodeTableWord (nbits w : Nat) : Option Instr :=
  (decode (BitVec.ofNat 32 (w % 2 ^ nbits))).toOption

/-- A word of format C from its fields (30_encoding.md R70). -/
def formatC (op : BitVec 4) (ksel : BitVec 1) (idx : BitVec 4) : Word :=
  0#20 ++ idx ++ 0#3 ++ ksel ++ op

/-- The encoder (30_encoding.md R70, R71, R77, R79). -/
def encode : Instr → Word
  | .nop => formatC 0x0 0 0
  | .keygen => formatC 0x1 0 0
  | .expand => formatC 0x2 0 0
  | .confuse => formatC 0x3 0 0
  | .feistel => formatC 0x4 0 0
  | .feistelk idx => formatC 0x4 1 idx
  | .round => formatC 0x5 0 0
  | .roundk idx => formatC 0x5 1 idx
  | .hswap => formatC 0x6 0 0
  | .encblk => formatC 0x7 0 0
  | .decblk => formatC 0x8 0 0
  | .padcnt => formatC 0x9 0 0
  | .encgrp => formatC 0xA 0 0
  | .decgrp => formatC 0xB 0 0
  | .encode => formatC 0xC 0 0
  | .decode => formatC 0xD 0 0
  | .clr => formatC 0xE 0 0

/-- The 33 legal words as 30_encoding.md R76 lists them: `0x0000000o` for o in 0 to 0xE, and `0x00000i14` and
`0x00000i15` for i in 0 to 8. -/
def legalWords : List Word :=
  (List.range 15).map (fun o => BitVec.ofNat 32 o)
  ++ (List.range 9).map (fun i => BitVec.ofNat 32 (0x14 + 0x100 * i))
  ++ (List.range 9).map (fun i => BitVec.ofNat 32 (0x15 + 0x100 * i))

end Sys2Proof
end

