-- ==== Sys2Proof/Config.lean ====
section
/-! DEFINITION. What the spec leaves to the implementation: the parameters of 00_scope.md R7 and CORE_BASE of 20_memory.md R63.

The S-boxes and the key window are PLAIN DATA, kept in State's field `cfg`, which no step writes: a statement
over all states is therefore a statement over all S-boxes and all windows ("a model takes SBOX1 and SBOX2 as arguments", R7).
Their default instance stands in Machine/Parameters.lean (log entries 1 and 2). -/

namespace Sys2Proof

/-- The open parameters of the scheme (00_scope.md R7). -/
structure Config where
  /-- SBOX1, substituted for the high nibble (41_feistel.md R112, R113). -/
  sbox1 : Vector (BitVec 3) 16
  /-- SBOX2, substituted for the low nibble (41_feistel.md R112, R113). -/
  sbox2 : Vector (BitVec 3) 16
  /-- KS_WINDOW as 40_key_schedule.md R102 tabulates it: row i lists, from bit 7 down to bit 0 of subkey k_i,
  the number of the key bit that lands there. DESIGN CHOICE (log entry 2): a window is a selection of key bits. -/
  ksWindow : Vector (Vector (Fin 9) 8) 9
deriving DecidableEq, Repr

/-- CORE_BASE: where a system places the 256-byte register window (20_memory.md R63, D3). Open: it has no value here
(log entry 10). -/
opaque Config.coreBase : Nat

end Sys2Proof
end

