-- ==== Sys2Proof/Machine/Parameters.lean ====
section
/-! DEFINITION. The default instance of the open parameters (00_scope.md R7).
PRESUMED: the spec itself takes both from general knowledge (93_implementation_defined.md G1, G2; log entries 1 and 2). -/

namespace Sys2Proof.Machine

/-- SBOX1's default entries, index 0 to F (41_feistel.md R114). -/
def defaultSbox1 : Vector (BitVec 3) 16 := #v[5, 2, 1, 6, 3, 4, 7, 0, 1, 4, 6, 2, 0, 7, 5, 3]

/-- SBOX2's default entries, index 0 to F (41_feistel.md R114). -/
def defaultSbox2 : Vector (BitVec 3) 16 := #v[4, 0, 6, 5, 7, 1, 3, 2, 5, 3, 0, 7, 6, 2, 1, 4]

/-- The default window, row k_0 to k_8, each from bit 7 down to bit 0 (40_key_schedule.md R102). -/
def defaultKsWindow : Vector (Vector (Fin 9) 8) 9 :=
  #v[#v[8, 7, 6, 5, 4, 3, 2, 1],
     #v[7, 6, 5, 4, 3, 2, 1, 0],
     #v[6, 5, 4, 3, 2, 1, 0, 8],
     #v[5, 4, 3, 2, 1, 0, 8, 7],
     #v[4, 3, 2, 1, 0, 8, 7, 6],
     #v[3, 2, 1, 0, 8, 7, 6, 5],
     #v[2, 1, 0, 8, 7, 6, 5, 4],
     #v[1, 0, 8, 7, 6, 5, 4, 3],
     #v[0, 8, 7, 6, 5, 4, 3, 2]]

/-- The default instance of every parameter (00_scope.md R7). -/
def defaultConfig : Config :=
  { sbox1 := defaultSbox1, sbox2 := defaultSbox2, ksWindow := defaultKsWindow }

end Sys2Proof.Machine
end

