-- ==== Sys2Proof/Machine/State.lean ====
section
/-! DEFINITION. The state of the CORE (10_state.md R20 to R45), the host's side of the two interfaces as plain data
(00_scope.md R12, 70_reset_and_hazards.md R244), the reasons a step can stop, and the state after reset (R45). -/

namespace Sys2Proof.Machine

/-- The error codes of STATUS.ERR (60_exceptions.md R200). Codes 8 to 15 are never produced. -/
inductive ErrCode where
  /-- 0 NONE: no error. -/
  | noError
  /-- 1 CONFIG: the round count is 0 or above 9 when a schedule is generated. -/
  | config
  /-- 2 FORMAT: a DECODE length not congruent to 1 mod 3, or a bad padding byte. -/
  | format
  /-- 3 IO_OPEN: InOpen or OutOpen answered Fail. -/
  | ioOpen
  /-- 4 IO_READ: InRead answered ReadErr. -/
  | ioRead
  /-- 5 IO_WRITE: OutWrite answered WriteErr. -/
  | ioWrite
  /-- 6 NOKEYS: a block command without the subkeys it needs. -/
  | noKeys
  /-- 7 ILLEGAL: a word that is no command. -/
  | illegal
deriving DecidableEq, Repr

/-- STATUS.PHASE: where the stream sequencer stands (10_state.md R37). Values 7 to 15 are never held. -/
inductive Phase where
  /-- 0 IDLE: no stream command in progress. -/
  | idle
  /-- 1 ENC_HDR: the next step writes the padding-count byte. -/
  | encHdr
  /-- 2 ENC_READ: the next step reads the next group or finds the end of the input. -/
  | encRead
  /-- 3 ENC_WRITE: the next step writes byte BIDX of BUF. -/
  | encWrite
  /-- 4 DEC_HDR: the next step reads the padding-count byte. -/
  | decHdr
  /-- 5 DEC_READ: the next step reads the next group. -/
  | decRead
  /-- 6 DEC_WRITE: the next step writes byte BIDX of BUF. -/
  | decWrite
deriving DecidableEq, Repr

/-- The fields of STATUS (10_state.md R22). -/
structure Status where
  busy : Bool
  done : Bool
  rkv : Bool
  ovr : Bool
  err : ErrCode
  rkn : BitVec 4
  phase : Phase
  pad : BitVec 2
  bidx : BitVec 2
  inOpen : Bool
  outOpen : Bool
deriving DecidableEq, Repr

/-- The host's answer to a port request (00_scope.md R12): `ok` is Ok or Bytes, `error` is Fail, ReadErr or WriteErr. -/
inductive Answer where
  | ok
  | error
deriving DecidableEq, Repr

/-- A request the CORE makes at a stream port (00_scope.md R12). InClose and OutClose have no answer. -/
inductive Request where
  | inOpen
  | inRead (k : Nat)
  | inClose
  | outOpen
  | outWrite (b : Byte)
  | outClose
deriving DecidableEq, Repr

/-- What the host does (70_reset_and_hazards.md R244; log entries 3, 5, 14, 15). -/
inductive HostAction where
  /-- `W(idx, v)`: write a register. -/
  | write (idx : Fin 64) (v : Word)
  /-- `R(idx)`: read a register. -/
  | read (idx : Fin 64)
  /-- `poll`: read STATUS until its BUSY bit is 0 (30_encoding.md R78). -/
  | poll
  /-- The host lets the CORE take its next step. -/
  | coreTurn
  /-- Assert reset (R230). -/
  | reset
  /-- Make these bytes the input stream, between two commands (95_test_vectors.md P4). -/
  | supplyInput (bs : List Byte)
deriving DecidableEq, Repr

/-- What the host sees of the CORE: the values its reads return and the port requests. -/
inductive Observation where
  | value (idx : Fin 64) (v : Word)
  | request (r : Request)
deriving DecidableEq, Repr

/-- The host's side: the two streams it holds (20_memory.md R51, R52), its draws and its actions still to come, and
what it has seen. The last four fields are the model's own (log entries 3, 4, 7, 13). -/
structure Env where
  /-- The input stream IN (R51). -/
  input : List Byte
  /-- The output stream (R52), first byte first. -/
  output : List Byte
  /-- Whether the host may rely on `output` (43_stream_codec.md R171: not after an error or a reset). -/
  outputTrusted : Bool
  /-- The draws: the host's answers to the requests to come, in request order; at its end the host answers no more. -/
  answers : List Answer
  /-- The host's actions to come, in the total order of 20_memory.md R64. -/
  actions : List HostAction
  /-- What the host has seen, newest first. -/
  trace : List Observation
deriving DecidableEq, Repr

/-- The state of the CORE and of the host's two interfaces. -/
structure State where
  /-- The parameters (00_scope.md R7); no step writes them. -/
  cfg : Config
  /-- STATUS (10_state.md R22). -/
  st : Status
  /-- KEY (R24). -/
  key : Key
  /-- NR (R25). -/
  nr : Word
  /-- DIN (R26). -/
  din : Word
  /-- SK (R27). -/
  sk : Byte
  /-- DOUT (R28). -/
  dout : Word
  /-- LEN (R29). -/
  len : Word
  /-- BUF (R30). -/
  buf : Group
  /-- ICNT (R31). -/
  icnt : Word
  /-- OCNT (R32). -/
  ocnt : Word
  /-- GCNT (R33). -/
  gcnt : Word
  /-- GTOT (R34). -/
  gtot : Word
  /-- The round-key file RK (R35). -/
  rk : Vector Byte 9
  /-- WLIM: how many bytes of the current group to write (R38). -/
  wlim : BitVec 2
  /-- The host's side. -/
  env : Env
deriving DecidableEq, Repr

/-- No step of the CORE ends in a fault: an error "is not a trap ... Its whole effect is finish(E)" (60_exceptions.md R209),
and every word, register and draw has an effect. -/
inductive Fault where
deriving DecidableEq, Repr

/-- Why a step is refused. All three are SAFE: the model stops where nothing is claimed. -/
inductive Refusal where
  /-- Raised by exec's arm of a command without a meaning. No arm of this model raises it. -/
  | notModelled (mnemonic : String)
  /-- Raised by the ENC_READ, DEC_HDR and DEC_READ steps when the host answers a read with bytes of an input stream that does not
  hold exactly LEN bytes: "such a host has no move in this spec" (70_reset_and_hazards.md R236,
  93_implementation_defined.md I11; log entry 8). -/
  | inputStreamLength
  /-- Raised by the host action `supplyInput` while a stream command runs: the stream "does not change during the command"
  (70_reset_and_hazards.md R236, 93_implementation_defined.md I11; log entry 8). -/
  | inputStreamChanged
deriving DecidableEq, Repr

/-- STATUS after reset (10_state.md R45). -/
def Status.reset : Status :=
  { busy := false, done := false, rkv := false, ovr := false, err := .noError, rkn := 0, phase := .idle, pad := 0,
    bidx := 0, inOpen := false, outOpen := false }

/-- The round-key file with every entry 0 (10_state.md R35, R36, R45). -/
def zeroRk : Vector Byte 9 := #v[0, 0, 0, 0, 0, 0, 0, 0, 0]

/-- The host's side at the start: nothing to come, nothing seen, both streams empty. DESIGN CHOICE (log entry 11). -/
def Env.start : Env :=
  { input := [], output := [], outputTrusted := true, answers := [], actions := [], trace := [] }

/-- The machine right after power-on (70_reset_and_hazards.md R231): every register, field and internal value as 10_state.md
R45 says; the parameters at the spec's default instance (log entries 1, 2). -/
def State.reset : State :=
  { cfg := defaultConfig, st := Status.reset, key := 0, nr := 0, din := 0, sk := 0, dout := 0, len := 0, buf := 0,
    icnt := 0, ocnt := 0, gcnt := 0, gtot := 0, rk := zeroRk, wlim := 3, env := Env.start }

end Sys2Proof.Machine
end

