-- ==== Sys2Proof/Machine/Flags.lean ====
section
/-! DEFINITION. STATUS as the host reads it (10_state.md R22): the field codes and their places. The CORE has no condition
codes and no flags other than these fields (R42). -/

namespace Sys2Proof.Machine

/-- ERR's code (60_exceptions.md R200). -/
def ErrCode.code : ErrCode → BitVec 4
  | .noError => 0
  | .config => 1
  | .format => 2
  | .ioOpen => 3
  | .ioRead => 4
  | .ioWrite => 5
  | .noKeys => 6
  | .illegal => 7

/-- PHASE's code (10_state.md R37). -/
def Phase.code : Phase → BitVec 4
  | .idle => 0
  | .encHdr => 1
  | .encRead => 2
  | .encWrite => 3
  | .decHdr => 4
  | .decRead => 5
  | .decWrite => 6

/-- STATUS, from bit 31 down: reserved [31:22], OUTOPEN [21], INOPEN [20], BIDX [19:18], PAD [17:16], PHASE [15:12], RKN [11:8],
ERR [7:4], OVR [3], RKV [2], DONE [1], BUSY [0] (10_state.md R22). -/
def statusWord (st : Status) : Word :=
  0#10 ++ BitVec.ofBool st.outOpen ++ BitVec.ofBool st.inOpen ++ st.bidx ++ st.pad ++ st.phase.code ++ st.rkn
    ++ st.err.code ++ BitVec.ofBool st.ovr ++ BitVec.ofBool st.rkv ++ BitVec.ofBool st.done ++ BitVec.ofBool st.busy

end Sys2Proof.Machine
end

