-- ==== Sys2Proof/Machine/Operands.lean ====
section
/-! DEFINITION. Where each command reads its operands (30_encoding.md R72, R73): "no command reads any other bits". -/

namespace Sys2Proof.Machine

/-- `x[DIN][5:0]`: EXPAND, FEISTEL, FEISTELK. -/
def dinHalf (s : State) : Half := s.din.extractLsb' 0 6
/-- `x[DIN][7:0]`: CONFUSE. -/
def dinByte (s : State) : Byte := s.din.extractLsb' 0 8
/-- `x[DIN][11:0]`: ROUND, ROUNDK, HSWAP, ENCBLK, DECBLK. -/
def dinBlock (s : State) : Block := s.din.extractLsb' 0 12
/-- `x[DIN][23:0]`: ENCGRP, DECGRP. -/
def dinGroup (s : State) : Group := s.din.extractLsb' 0 24

/-- `RK[idx]`. The guard IDX < RKN of FEISTELK and ROUNDK (41_feistel.md R121, R123) and RKN <= 9 keep idx below 9 wherever
a run can get; elsewhere this answers 0 (log entry 9). -/
def rkEntry (s : State) (idx : BitVec 4) : Byte := s.rk.toList.getD idx.toNat 0

/-- `RK[0..RKN-1]`: the subkeys in force, in index order (42_block_cipher.md R131, R132: the count is STATUS.RKN, never NR). -/
def subkeys (s : State) : List Byte := s.rk.toList.take s.st.rkn.toNat

/-- A result zero-extended for DOUT (10_state.md R28). -/
def zextWord {n : Nat} (v : BitVec n) : Word := v.setWidth 32

end Sys2Proof.Machine
end

