-- ==== Sys2Proof/Machine/Ops.lean ====
section
/-! DEFINITION. The operations the commands share: acceptance and completion, the error entry, the round-key file, the
stream ports and the register window. -/

namespace Sys2Proof.Machine

/-- The outcome of a step. -/
abbrev Result := Host.Outcome State Fault Refusal

/-! ## Acceptance, completion and error entry (60_exceptions.md R203, R204, R209) -/

/-- Acceptance: `STATUS.ERR <- NONE`, `STATUS.DONE <- 0` (R203). -/
def accept (s : State) : State := { s with st := { s.st with err := .noError, done := false } }

/-- Completion `finish(E)` of a command that is not ENCODE or DECODE: `STATUS.ERR <- E`, `STATUS.DONE <- 1` (R204).
`raise E` is this with E an error: it "saves no program counter, changes no mode or mask, uses no stack and transfers
control nowhere" (R209). -/
def finish (e : ErrCode) (s : State) : State := { s with st := { s.st with err := e, done := true } }

/-- A primitive command's end: its result in DOUT, `finish(NONE)` (10_state.md R28). -/
def finishResult (v : Word) (s : State) : State := finish .noError { s with dout := v }

/-! ## The round-key file (10_state.md R35, R36) -/

/-- `RKV <- 0`, `RKN <- 0`, every `RK[i] <- 0` (R36). -/
def clearSchedule (s : State) : State :=
  { s with rk := zeroRk, st := { s.st with rkv := false, rkn := 0 } }

/-- Load a schedule of n subkeys: `RK[i] <- (i < n) ? r[i] : 0`, `RKV <- 1`, `RKN <- n[3:0]` (40_key_schedule.md R104,
43_stream_codec.md R151). The list r has n entries, so an absent entry is one with i >= n. -/
def fillRk (r : List Byte) : Vector Byte 9 :=
  #v[r.getD 0 0, r.getD 1 0, r.getD 2 0, r.getD 3 0, r.getD 4 0, r.getD 5 0, r.getD 6 0, r.getD 7 0, r.getD 8 0]

/-- The same with the STATUS fields. -/
def loadSchedule (r : List Byte) (n : Word) (s : State) : State :=
  { s with rk := fillRk r, st := { s.st with rkv := true, rkn := n.extractLsb' 0 4 } }

/-! ## The stream ports (00_scope.md R12) -/

/-- Make a request that has no answer. -/
def tell (r : Request) (s : State) : State := { s with env := { s.env with trace := .request r :: s.env.trace } }

/-- The request `r` is made and the first of the draws is taken, leaving `rest`. -/
def asked (r : Request) (rest : List Answer) (s : State) : State :=
  { s with env := { s.env with answers := rest, trace := .request r :: s.env.trace } }

/-- Make a request and take the host's next draw. `none`: the host leaves the request unanswered, and no step happens
(70_reset_and_hazards.md R236; log entry 4). -/
def ask (r : Request) (s : State) : Option (Answer × State) :=
  match s.env.answers with
  | [] => none
  | a :: rest => some (a, asked r rest s)

/-- `if STATUS.INOPEN == 1: InClose(); STATUS.INOPEN <- 0` (43_stream_codec.md R152). -/
def closeIn (s : State) : State :=
  if s.st.inOpen then tell .inClose { s with st := { s.st with inOpen := false } } else s

/-- `if STATUS.OUTOPEN == 1: OutClose(); STATUS.OUTOPEN <- 0` (R152). -/
def closeOut (s : State) : State :=
  if s.st.outOpen then tell .outClose { s with st := { s.st with outOpen := false } } else s

/-- The output stream may no longer be relied on (43_stream_codec.md R171; log entry 7). -/
def distrustOutput (s : State) : State := { s with env := { s.env with outputTrusted := false } }

/-- `PHASE <- IDLE; BUSY <- 0; BIDX <- 0` (43_stream_codec.md R152). -/
def goIdle (s : State) : State := { s with st := { s.st with phase := .idle, busy := false, bidx := 0 } }

/-- `finish(E)` of ENCODE and DECODE: close the ports, free the schedule, go idle (43_stream_codec.md R152), then
complete (60_exceptions.md R204). -/
def streamFinish (e : ErrCode) (s : State) : State :=
  finish e (goIdle (clearSchedule (closeOut (closeIn s))))

/-- `raise E` in a stream command: `finish(E)`, after which the output is untrusted (R152, R171). -/
def streamRaise (e : ErrCode) (s : State) : State := distrustOutput (streamFinish e s)

/-- InOpen answered Ok (43_stream_codec.md R158). -/
def setInOpen (s : State) : State := { s with st := { s.st with inOpen := true } }

/-- OutOpen answered Ok: the output stream of this command, which "is the concatenation of the bytes of its Ok-answered
writes" (20_memory.md R65), starts empty. DEDUCED (log entry 6). -/
def setOutOpen (s : State) : State :=
  { s with st := { s.st with outOpen := true }, env := { s.env with output := [], outputTrusted := true } }

/-- How many bytes `InRead(k)` asks the host for: `min(k, x[LEN] - x[ICNT])` (00_scope.md R12). -/
def readSize (k : Nat) (s : State) : Nat := min k (s.len.toNat - s.icnt.toNat)

/-- The bytes the host's answer carries: the next `min(k, x[LEN] - x[ICNT])` bytes of IN, from `IN[x[ICNT]]` (20_memory.md R51). -/
def nextBytes (k : Nat) (s : State) : List Byte := (s.env.input.drop s.icnt.toNat).take (readSize k s)

/-- One step's `InRead(k)`: unanswered, the CORE holds in its phase; ReadErr raises IO_READ; Bytes go on to `use`. Bytes of an
input stream that does not hold exactly `x[LEN]` bytes are refused (70_reset_and_hazards.md R236; log entry 8). -/
def withRead (k : Nat) (s : State) (use : List Byte → State → Result) : Result :=
  match ask (.inRead k) s with
  | none => .next s
  | some (.error, t) => .next (streamRaise .ioRead t)
  | some (.ok, t) =>
    if s.env.input.length = s.len.toNat then use (nextBytes k s) t else .refused .inputStreamLength

/-- The host has appended b: the output grows and `x[OCNT] <- x[OCNT] + 1` (20_memory.md R52, 43_stream_codec.md R159). -/
def wrote (b : Byte) (s : State) : State :=
  { s with ocnt := s.ocnt + 1, env := { s.env with output := s.env.output ++ [b] } }

/-- One step's `OutWrite(b)`: unanswered, the CORE holds in its phase; WriteErr raises IO_WRITE; Ok appends b, counts it and
goes on to `after`. -/
def withWrite (b : Byte) (s : State) (after : State → State) : Result :=
  match ask (.outWrite b) s with
  | none => .next s
  | some (.error, t) => .next (streamRaise .ioWrite t)
  | some (.ok, t) => .next (after (wrote b t))

/-! ## The register window (10_state.md R20, R40, R43, R44) -/

/-- The named registers of the window. -/
inductive Reg where
  | cmd | status | key | nr | din | sk | dout | len | buf | icnt | ocnt | gcnt | gtot
  | rk (i : Fin 9)
deriving DecidableEq, Repr

/-- `index(REG)` (10_state.md R20, 30_encoding.md R77). -/
def Reg.index : Reg → Fin 64
  | .cmd => 0
  | .status => 1
  | .key => 2
  | .nr => 3
  | .din => 4
  | .sk => 5
  | .dout => 6
  | .len => 7
  | .buf => 8
  | .icnt => 9
  | .ocnt => 10
  | .gcnt => 11
  | .gtot => 12
  | .rk i => ⟨16 + i.val, by omega⟩

/-- The register at a word index; `none` at the reserved indices 13 to 15 and 25 to 63 (10_state.md R20, R40). -/
def Reg.ofIndex (i : Fin 64) : Option Reg :=
  match i.val with
  | 0 => some .cmd
  | 1 => some .status
  | 2 => some .key
  | 3 => some .nr
  | 4 => some .din
  | 5 => some .sk
  | 6 => some .dout
  | 7 => some .len
  | 8 => some .buf
  | 9 => some .icnt
  | 10 => some .ocnt
  | 11 => some .gcnt
  | 12 => some .gtot
  | n => if h : 16 ≤ n ∧ n - 16 < 9 then some (.rk ⟨n - 16, h.2⟩) else none

/-- A register's value as the host reads it, upper bits 0 (10_state.md R20 to R35). CMD reads 0 (R21). -/
def readReg : Reg → State → Word
  | .cmd, _ => 0
  | .status, s => statusWord s.st
  | .key, s => zextWord s.key
  | .nr, s => s.nr
  | .din, s => s.din
  | .sk, s => zextWord s.sk
  | .dout, s => s.dout
  | .len, s => s.len
  | .buf, s => zextWord s.buf
  | .icnt, s => s.icnt
  | .ocnt, s => s.ocnt
  | .gcnt, s => s.gcnt
  | .gtot, s => s.gtot
  | .rk i, s => zextWord s.rk[i]

/-- `MemRead(4*i, 4)`: reserved indices read 0 (10_state.md R40, 20_memory.md R50). -/
def readIndex (i : Fin 64) (s : State) : Word :=
  match Reg.ofIndex i with
  | some r => readReg r s
  | none => 0

/-- A host read answers the register's current value and has no other effect (10_state.md R44, 20_memory.md R62). -/
def hostRead (i : Fin 64) (s : State) : State :=
  { s with env := { s.env with trace := .value i (readIndex i s) :: s.env.trace } }

/-- A write dropped because BUSY is 1: `STATUS.OVR <- 1`, nothing else (10_state.md R43). -/
def dropWrite (s : State) : State := { s with st := { s.st with ovr := true } }

/-- `x[KEY] <- zext_32(v[8:0])`, and the schedule is invalidated (10_state.md R24, R36). -/
def writeKey (v : Word) (s : State) : State := clearSchedule { s with key := v.extractLsb' 0 9 }

/-- `x[NR] <- v`, and the schedule is invalidated (10_state.md R25, R36). -/
def writeNr (v : Word) (s : State) : State := clearSchedule { s with nr := v }

/-- `x[DIN] <- v` (10_state.md R26). -/
def writeDin (v : Word) (s : State) : State := { s with din := v }

/-- `x[SK] <- zext_32(v[7:0])` (10_state.md R27). -/
def writeSk (v : Word) (s : State) : State := { s with sk := v.extractLsb' 0 8 }

/-- `x[LEN] <- v` (10_state.md R29). -/
def writeLen (v : Word) (s : State) : State := { s with len := v }

/-- The CMD write of a start step whose port request the host never answers does not take effect: the write stands again at the
head of the host's actions, and the state is the one before it (70_reset_and_hazards.md R236; log entry 4). -/
def reissue (i : Instr) (s : State) : State :=
  { s with env := { s.env with actions := .write 0 (Sys2Proof.encode i) :: s.env.actions } }

/-- Reset (70_reset_and_hazards.md R230): open ports are closed, every register, field and internal value takes its value of
10_state.md R45. The parameters, the streams' content (R233) and what the host has yet to do stay; the bytes a command in
progress wrote are untrusted. -/
def hostReset (s : State) : State :=
  let t := closeOut (closeIn s)
  { State.reset with
    cfg := s.cfg
    env := { t.env with outputTrusted := if s.st.busy then false else s.env.outputTrusted } }

end Sys2Proof.Machine
end

