-- ==== Sys2Proof/Machine/Control.lean ====
section
/-! DEFINITION. The control commands (44_control.md R190, R191). -/

namespace Sys2Proof.Machine

/-- NOP: `finish(NONE)` and nothing else (44_control.md R190). -/
def execNop (s : State) : Result := .next (finish .noError (accept s))

/-- CLR: ERR, OVR and DONE are cleared; it is the one command that does not leave DONE = 1 (44_control.md R191). -/
def execClr (s : State) : Result :=
  let s := accept s
  .next { s with st := { s.st with err := .noError, ovr := false, done := false } }

end Sys2Proof.Machine
end

