-- ==== Sys2Proof/Machine/Feistel.lean ====
section
/-! DEFINITION. The Feistel expansion and substitution mixer (41_feistel.md R110 to R123). -/

namespace Sys2Proof.Machine

/-- `expand(h)`: output bits [7:0] take input bits 5, 4, 2, 3, 2, 3, 1, 0 (41_feistel.md R110; 90_conflicts.md C1). -/
def expand (h : Half) : Byte :=
  h.extractLsb' 5 1 ++ h.extractLsb' 4 1 ++ h.extractLsb' 2 1 ++ h.extractLsb' 3 1
    ++ h.extractLsb' 2 1 ++ h.extractLsb' 3 1 ++ h.extractLsb' 1 1 ++ h.extractLsb' 0 1

/-- The entry of a table at a nibble (41_feistel.md R113). -/
def sboxEntry (t : Vector (BitVec 3) 16) (nibble : BitVec 4) : BitVec 3 := t[nibble.toNat]'nibble.isLt

/-- `confuse(y)`: SBOX1 of the high nibble in bits [5:3], SBOX2 of the low nibble in bits [2:0] (41_feistel.md R112). -/
def confuse (cfg : Config) (y : Byte) : Half :=
  sboxEntry cfg.sbox1 (y.extractLsb' 4 4) ++ sboxEntry cfg.sbox2 (y.extractLsb' 0 4)

/-- `feistel(h, k) = confuse(expand(h) ^ k)` (41_feistel.md R115). -/
def feistel (cfg : Config) (h : Half) (k : Byte) : Half := confuse cfg (expand h ^^^ k)

/-- The left half, bits [11:6] (00_scope.md R6). -/
def leftHalf (b : Block) : Half := b.extractLsb' 6 6

/-- The right half, bits [5:0]. -/
def rightHalf (b : Block) : Half := b.extractLsb' 0 6

/-- `round(b, k)`: the new left half is the old right half, the new right half is the old left half XOR f (41_feistel.md R117). -/
def round (cfg : Config) (b : Block) (k : Byte) : Block :=
  rightHalf b ++ (feistel cfg (rightHalf b) k ^^^ leftHalf b)

/-- The check of FEISTELK and ROUNDK: `if i >= STATUS.RKN: raise NOKEYS` (41_feistel.md R121, R123). -/
def withIndexedKey (idx : BitVec 4) (s : State) (use : Byte → Word) : Result :=
  if s.st.rkn.toNat ≤ idx.toNat then .next (finish .noKeys s)
  else .next (finishResult (use (rkEntry s idx)) s)

/-- EXPAND (41_feistel.md R118). -/
def execExpand (s : State) : Result :=
  let s := accept s
  .next (finishResult (zextWord (expand (dinHalf s))) s)

/-- CONFUSE (41_feistel.md R119). -/
def execConfuse (s : State) : Result :=
  let s := accept s
  .next (finishResult (zextWord (confuse s.cfg (dinByte s))) s)

/-- FEISTEL, the subkey from SK (41_feistel.md R120). -/
def execFeistel (s : State) : Result :=
  let s := accept s
  .next (finishResult (zextWord (feistel s.cfg (dinHalf s) s.sk)) s)

/-- FEISTELK i, the subkey from RK[i] (41_feistel.md R121). -/
def execFeistelk (idx : BitVec 4) (s : State) : Result :=
  let s := accept s
  withIndexedKey idx s (fun k => zextWord (feistel s.cfg (dinHalf s) k))

/-- ROUND, the subkey from SK (41_feistel.md R122). -/
def execRound (s : State) : Result :=
  let s := accept s
  .next (finishResult (zextWord (round s.cfg (dinBlock s) s.sk)) s)

/-- ROUNDK i, the subkey from RK[i] (41_feistel.md R123). -/
def execRoundk (idx : BitVec 4) (s : State) : Result :=
  let s := accept s
  withIndexedKey idx s (fun k => zextWord (round s.cfg (dinBlock s) k))

end Sys2Proof.Machine
end

