-- ==== Sys2Proof/Machine/BlockCipher.lean ====
section
/-! DEFINITION. The block cipher round sequencer (42_block_cipher.md R130 to R140). -/

namespace Sys2Proof.Machine

/-- `hswap(b) = b[5:0] ++ b[11:6]`, the corrective half-swap (42_block_cipher.md R130). -/
def hswap (b : Block) : Block := rightHalf b ++ leftHalf b

/-- The rounds with the subkeys in list order (42_block_cipher.md R131). -/
def rounds (cfg : Config) (b : Block) (ks : List Byte) : Block := ks.foldl (round cfg) b

/-- `encrypt`: the rounds with the subkeys in forward order, then one half-swap (42_block_cipher.md R131). -/
def encrypt (cfg : Config) (ks : List Byte) (b : Block) : Block := hswap (rounds cfg b ks)

/-- `decrypt`: the same with the subkeys in reverse order (42_block_cipher.md R133). -/
def decrypt (cfg : Config) (ks : List Byte) (b : Block) : Block := hswap (rounds cfg b ks.reverse)

/-- The check of the block commands: `if STATUS.RKV == 0: raise NOKEYS` (42_block_cipher.md R135, R136,
43_stream_codec.md R156, R157). -/
def withSchedule (s : State) (result : Word) : Result :=
  if s.st.rkv then .next (finishResult result s) else .next (finish .noKeys s)

/-- HSWAP (42_block_cipher.md R134). -/
def execHswap (s : State) : Result :=
  let s := accept s
  .next (finishResult (zextWord (hswap (dinBlock s))) s)

/-- ENCBLK (42_block_cipher.md R135). -/
def execEncblk (s : State) : Result :=
  let s := accept s
  withSchedule s (zextWord (encrypt s.cfg (subkeys s) (dinBlock s)))

/-- DECBLK (42_block_cipher.md R136). -/
def execDecblk (s : State) : Result :=
  let s := accept s
  withSchedule s (zextWord (decrypt s.cfg (subkeys s) (dinBlock s)))

end Sys2Proof.Machine
end

