-- ==== Sys2Proof/Machine/KeySchedule.lean ====
section
/-! DEFINITION. The key schedule generator and KEYGEN (40_key_schedule.md R100 to R106). -/

namespace Sys2Proof.Machine

/-- The bits of a window row, from bit 7 of the subkey down to bit 0 (40_key_schedule.md R102). -/
def windowBits (row : Vector (Fin 9) 8) (K : Key) : Byte :=
  BitVec.ofBool (K.getLsbD row[0].val) ++ BitVec.ofBool (K.getLsbD row[1].val)
    ++ BitVec.ofBool (K.getLsbD row[2].val) ++ BitVec.ofBool (K.getLsbD row[3].val)
    ++ BitVec.ofBool (K.getLsbD row[4].val) ++ BitVec.ofBool (K.getLsbD row[5].val)
    ++ BitVec.ofBool (K.getLsbD row[6].val) ++ BitVec.ofBool (K.getLsbD row[7].val)

/-- `KS_WINDOW(K, i)`: subkey k_i (40_key_schedule.md R101, R102). -/
def subkey (cfg : Config) (K : Key) (i : Fin 9) : Byte := windowBits cfg.ksWindow[i] K

/-- `schedule(K, n)`: `none` is Fail, when n < 1 or n > 9; else the list [k_0, ..., k_(n-1)] (40_key_schedule.md R100, R101, R103). -/
def schedule (cfg : Config) (K : Key) (n : Word) : Option (List Byte) :=
  if n.toNat < 1 ∨ 9 < n.toNat then none
  else some (([0, 1, 2, 3, 4, 5, 6, 7, 8].take n.toNat).map (subkey cfg K))

/-- KEYGEN (40_key_schedule.md R104). -/
def execKeygen (s : State) : Result :=
  let s := accept s
  match schedule s.cfg s.key s.nr with
  | none => .next (finish .config (clearSchedule s))
  | some r => .next (finish .noError (loadSchedule r s.nr s))

end Sys2Proof.Machine
end

