-- ==== Sys2Proof/Machine/StreamCodec.lean ====
section
/-! DEFINITION. The stream padding codec and byte framer (43_stream_codec.md R150 to R172): the single-step commands,
the start steps of ENCODE and DECODE, and one step per phase. -/

namespace Sys2Proof.Machine

/-! ## Functions -/

/-- `padcount(L) = (3 - (L mod 3)) mod 3` (43_stream_codec.md R150). -/
def padcount (L : Nat) : Nat := (3 - L % 3) % 3

/-- `unpack(bs)`: byte j in bits [8j+7 : 8j], missing bytes 0 (43_stream_codec.md R153, 20_memory.md R55, R56). -/
def unpack : List Byte → Group
  | [] => 0
  | b :: bs => b.setWidth 24 ||| (unpack bs <<< 8)

/-- Byte j of a group, `G[8*j+7 : 8*j]` (43_stream_codec.md R154). -/
def groupByte (g : Group) (j : BitVec 2) : Byte := g.extractLsb' (8 * j.toNat) 8

/-- The low block, `G[11:0]` (20_memory.md R55). -/
def lowBlock (g : Group) : Block := g.extractLsb' 0 12

/-- The high block, `G[23:12]` (20_memory.md R55). -/
def highBlock (g : Group) : Block := g.extractLsb' 12 12

/-- Encode's per-group step: "block1 | (block2 << 12)" of the two encrypted blocks (43_stream_codec.md R156, R160). -/
def encryptGroup (cfg : Config) (ks : List Byte) (g : Group) : Group :=
  (encrypt cfg ks (lowBlock g)).setWidth 24 ||| ((encrypt cfg ks (highBlock g)).setWidth 24 <<< 12)

/-- Decode's per-group step: "(left << 12) | right" of the two decrypted blocks (43_stream_codec.md R157, R166;
90_conflicts.md C5). -/
def decryptGroup (cfg : Config) (ks : List Byte) (g : Group) : Group :=
  ((decrypt cfg ks (highBlock g)).setWidth 24 <<< 12) ||| (decrypt cfg ks (lowBlock g)).setWidth 24

/-! ## Single-step commands -/

/-- PADCNT (43_stream_codec.md R155). -/
def execPadcnt (s : State) : Result :=
  let s := accept s
  .next (finishResult (BitVec.ofNat 32 (padcount s.len.toNat)) s)

/-- ENCGRP (43_stream_codec.md R156). -/
def execEncgrp (s : State) : Result :=
  let s := accept s
  withSchedule s (zextWord (encryptGroup s.cfg (subkeys s) (dinGroup s)))

/-- DECGRP (43_stream_codec.md R157). -/
def execDecgrp (s : State) : Result :=
  let s := accept s
  withSchedule s (zextWord (decryptGroup s.cfg (subkeys s) (dinGroup s)))

/-! ## The start steps -/

/-- What acceptance of a stream command clears (43_stream_codec.md R151). -/
def clearStream (s : State) : State :=
  { s with icnt := 0, ocnt := 0, gcnt := 0, gtot := 0, wlim := 3, st := { s.st with pad := 0, bidx := 0 } }

/-- Stream start (43_stream_codec.md R151): the command's own schedule from KEY and NR, or CONFIG before any stream is opened. -/
def streamStart (s : State) (go : State → Option State) : Option State :=
  let s := clearStream (accept s)
  match schedule s.cfg s.key s.nr with
  | none => some (streamRaise .config s)
  | some r => go (loadSchedule r s.nr s)

/-- `if InOpen() == Fail: raise IO_OPEN; STATUS.INOPEN <- 1` (43_stream_codec.md R158, R162). -/
def openIn (s : State) (go : State → Option State) : Option State :=
  match ask .inOpen s with
  | none => none
  | some (.error, t) => some (streamRaise .ioOpen t)
  | some (.ok, t) => go (setInOpen t)

/-- `if OutOpen() == Fail: raise IO_OPEN; STATUS.OUTOPEN <- 1` (R158, R162). -/
def openOut (s : State) (go : State → Option State) : Option State :=
  match ask .outOpen s with
  | none => none
  | some (.error, t) => some (streamRaise .ioOpen t)
  | some (.ok, t) => go (setOutOpen t)

/-- `STATUS.BUSY <- 1; STATUS.PHASE <- p` (R158, R162). -/
def goBusy (p : Phase) (s : State) : State := { s with st := { s.st with busy := true, phase := p } }

/-- `STATUS.PAD <- padcount(x[LEN])` (R158). -/
def setPadOfLen (s : State) : State :=
  { s with st := { s.st with pad := BitVec.ofNat 2 (padcount s.len.toNat) } }

/-- `x[GTOT] <- (x[LEN] - 1) div 3` (43_stream_codec.md R162, R164). -/
def setGtot (s : State) : State := { s with gtot := BitVec.ofNat 32 ((s.len.toNat - 1) / 3) }

/-- ENCODE's start step (43_stream_codec.md R158); `none` where the host leaves a request unanswered. -/
def encodeStart (s : State) : Option State :=
  streamStart s fun s => openIn s fun s => openOut s fun s => some (goBusy .encHdr (setPadOfLen s))

/-- DECODE's start step (43_stream_codec.md R162): the length check of R163 comes after the input is opened and before the
output is. -/
def decodeStart (s : State) : Option State :=
  streamStart s fun s => openIn s fun s =>
    if s.len.toNat % 3 = 1 then openOut s fun s => some (goBusy .decHdr (setGtot s))
    else some (streamRaise .format s)

/-- ENCODE (43_stream_codec.md R158). Where a port request goes unanswered the start step has not happened and the command
stands where it stood (70_reset_and_hazards.md R236; log entry 4). -/
def execEncode (s : State) : Result :=
  match encodeStart s with
  | some t => .next t
  | none => .next (reissue .encode s)

/-- DECODE (43_stream_codec.md R162); unanswered requests as in `execEncode`. -/
def execDecode (s : State) : Result :=
  match decodeStart s with
  | some t => .next t
  | none => .next (reissue .decode s)

/-! ## The phases of ENCODE -/

/-- Move the sequencer to a phase (10_state.md R37). -/
def toPhase (p : Phase) (s : State) : State := { s with st := { s.st with phase := p } }

/-- `STATUS.BIDX <- j` (10_state.md R38). -/
def setBidx (j : BitVec 2) (s : State) : State := { s with st := { s.st with bidx := j } }

/-- All bytes of the group are written: `BIDX <- 0; GCNT <- GCNT + 1` (43_stream_codec.md R161, R167). -/
def groupDone (s : State) : State := setBidx 0 { s with gcnt := s.gcnt + 1 }

/-- ENC_HDR (43_stream_codec.md R159): write the padding count, unencrypted. -/
def stepEncHdr (s : State) : Result :=
  withWrite (s.st.pad.setWidth 8) s (toPhase .encRead)

/-- ENC_READ's transform (43_stream_codec.md R160): the group is read, unpacked and encrypted in one step. -/
def encTake (bs : List Byte) (s : State) : State :=
  toPhase .encWrite (setBidx 0
    { s with icnt := s.icnt + BitVec.ofNat 32 bs.length, buf := encryptGroup s.cfg (subkeys s) (unpack bs), wlim := 3 })

/-- ENC_READ (43_stream_codec.md R160, R170): a zero-byte read ends the command. -/
def stepEncRead (s : State) : Result :=
  withRead 3 s fun bs t => if bs.length = 0 then .next (streamFinish .noError t) else .next (encTake bs t)

/-- What ENC_WRITE does once byte BIDX is written (43_stream_codec.md R161). -/
def encAfterWrite (s : State) : State :=
  if s.st.bidx = 2 then toPhase .encRead (groupDone s) else setBidx (s.st.bidx + 1) s

/-- ENC_WRITE (43_stream_codec.md R161): one byte of BUF. -/
def stepEncWrite (s : State) : Result := withWrite (groupByte s.buf s.st.bidx) s encAfterWrite

/-! ## The phases of DECODE -/

/-- DEC_HDR with the padding byte p in hand (43_stream_codec.md R165). -/
def decTakePad (p : Byte) (s : State) : State :=
  let s := { s with icnt := 1 }
  if 2 < p.toNat then streamRaise .format s
  else if s.gtot = 0 ∧ p ≠ 0 then streamRaise .format s
  else
    let s := { s with st := { s.st with pad := p.extractLsb' 0 2 } }
    if s.gtot = 0 then streamFinish .noError s else toPhase .decRead s

/-- DEC_HDR (43_stream_codec.md R165). "One byte is always there: LEN >= 1"; in a state where none is, which no run reaches,
the read is refused (log entry 9). -/
def stepDecHdr (s : State) : Result :=
  withRead 1 s fun bs t =>
    match bs with
    | p :: _ => .next (decTakePad p t)
    | [] => .refused .inputStreamLength

/-- DEC_READ's transform (43_stream_codec.md R166). -/
def decTake (bs : List Byte) (s : State) : State :=
  toPhase .decWrite (setBidx 0
    { s with
      icnt := s.icnt + 3
      buf := decryptGroup s.cfg (subkeys s) (unpack bs)
      wlim := if s.gcnt = s.gtot - 1 then 3 - s.st.pad else 3 })

/-- DEC_READ (43_stream_codec.md R166). -/
def stepDecRead (s : State) : Result := withRead 3 s fun bs t => .next (decTake bs t)

/-- What DEC_WRITE does once byte BIDX is written (43_stream_codec.md R167). -/
def decAfterWrite (s : State) : State :=
  if s.st.bidx + 1 = s.wlim then
    let s := groupDone s
    if s.gcnt = s.gtot then streamFinish .noError s else toPhase .decRead s
  else setBidx (s.st.bidx + 1) s

/-- DEC_WRITE (43_stream_codec.md R167): one byte of BUF, WLIM of them in all. -/
def stepDecWrite (s : State) : Result := withWrite (groupByte s.buf s.st.bidx) s decAfterWrite

/-! ## One CORE step -/

/-- The CORE's next step: the phase decides it; an idle CORE "keeps all its state" (10_state.md R37, 60_exceptions.md R217). -/
def coreStep (s : State) : Result :=
  match s.st.phase with
  | .idle => .next s
  | .encHdr => stepEncHdr s
  | .encRead => stepEncRead s
  | .encWrite => stepEncWrite s
  | .decHdr => stepDecHdr s
  | .decRead => stepDecRead s
  | .decWrite => stepDecWrite s

end Sys2Proof.Machine
end

