-- ==== Sys2Proof/Machine/Dispatch.lean ====
section
/-! DEFINITION. The meaning of each command, one arm per constructor (30_encoding.md R71). -/

namespace Sys2Proof.Machine

def exec (i : Instr) (s : State) : Host.Outcome State Fault Refusal :=
  match i with
  | .nop => Sys2Proof.Machine.execNop s
  | .keygen => Sys2Proof.Machine.execKeygen s
  | .expand => Sys2Proof.Machine.execExpand s
  | .confuse => Sys2Proof.Machine.execConfuse s
  | .feistel => Sys2Proof.Machine.execFeistel s
  | .feistelk idx => Sys2Proof.Machine.execFeistelk idx s
  | .round => Sys2Proof.Machine.execRound s
  | .roundk idx => Sys2Proof.Machine.execRoundk idx s
  | .hswap => Sys2Proof.Machine.execHswap s
  | .encblk => Sys2Proof.Machine.execEncblk s
  | .decblk => Sys2Proof.Machine.execDecblk s
  | .padcnt => Sys2Proof.Machine.execPadcnt s
  | .encgrp => Sys2Proof.Machine.execEncgrp s
  | .decgrp => Sys2Proof.Machine.execDecgrp s
  | .encode => Sys2Proof.Machine.execEncode s
  | .decode => Sys2Proof.Machine.execDecode s
  | .clr => Sys2Proof.Machine.execClr s

end Sys2Proof.Machine
end

