-- ==== Sys2Proof/Machine/Bus.lean ====
section
/-! DEFINITION. The host's actions on the CORE (70_reset_and_hazards.md R244): issuing a command, register accesses, polling,
reset, and the addresses of the register window. -/

namespace Sys2Proof.Machine

/-- A word written to CMD while BUSY = 0 is decoded and performed; a word that is no command is `finish(ILLEGAL)` at once
(10_state.md R21, 30_encoding.md R74, 60_exceptions.md R203). -/
def issue (w : Word) (s : State) : Result :=
  match Sys2Proof.decode w with
  | .ok i => exec i s
  | .error _ => .next (finish .illegal s)

/-- A host write `W(idx, v)` (10_state.md R21, R24 to R29, R40, R43, R44): CMD, KEY, NR, DIN, SK and LEN are dropped with OVR set
while BUSY = 1; read-only and reserved indices ignore writes at any time and never set OVR. -/
def hostWrite (i : Fin 64) (v : Word) (s : State) : Result :=
  match Reg.ofIndex i with
  | some .cmd => if s.st.busy then .next (dropWrite s) else issue v s
  | some .key => if s.st.busy then .next (dropWrite s) else .next (writeKey v s)
  | some .nr => if s.st.busy then .next (dropWrite s) else .next (writeNr v s)
  | some .din => if s.st.busy then .next (dropWrite s) else .next (writeDin v s)
  | some .sk => if s.st.busy then .next (dropWrite s) else .next (writeSk v s)
  | some .len => if s.st.busy then .next (dropWrite s) else .next (writeLen v s)
  | some .status | some .dout | some .buf | some .icnt | some .ocnt | some .gcnt | some .gtot | some (.rk _) | none => .next s

/-- `poll`: `rd STATUS` repeated until BUSY is 0 (30_encoding.md R78). While BUSY is 1 the host reads, lets the CORE take a turn
and polls again; "the loop is in the host, not the CORE" (log entry 14). -/
def hostPoll (s : State) : State :=
  let t := hostRead 1 s
  if s.st.busy then { t with env := { t.env with actions := .coreTurn :: .poll :: t.env.actions } } else t

/-- The host changes the input stream it holds. While a stream command runs it may not (70_reset_and_hazards.md R236), and such
a host is refused (93_implementation_defined.md I11; log entries 8, 15). -/
def hostSupply (bs : List Byte) (s : State) : Result :=
  if s.st.busy then .refused .inputStreamChanged else .next { s with env := { s.env with input := bs } }

/-- One host action, already taken off the list of actions to come. -/
def hostAct (a : HostAction) (s : State) : Result :=
  match a with
  | .write i v => hostWrite i v s
  | .read i => .next (hostRead i s)
  | .poll => .next (hostPoll s)
  | .coreTurn => coreStep s
  | .reset => .next (hostReset s)
  | .supplyInput bs => hostSupply bs s

/-- The next event of the total order (20_memory.md R64): the host's next action, or, when the host has none left, the CORE's
next step (log entry 5). -/
def nextEvent (s : State) : Result :=
  match s.env.actions with
  | [] => coreStep s
  | a :: rest => hostAct a { s with env := { s.env with actions := rest } }

/-! ## Addresses of the register window (20_memory.md R50, R63) -/

/-- The system address of register i: byte offset 4*i from CORE_BASE. -/
def addressOf (i : Fin 64) : Nat := Config.coreBase + 4 * i.val

/-- The word index an aligned address of the window names; nothing else is an address of the CORE. -/
def indexOfAddress (a : Nat) : Option (Fin 64) :=
  if h : Config.coreBase ≤ a ∧ (a - Config.coreBase) % 4 = 0 ∧ (a - Config.coreBase) / 4 < 64 then
    some ⟨(a - Config.coreBase) / 4, h.2.2⟩
  else none

end Sys2Proof.Machine
end

