-- ==== Sys2Proof/Machine/Step.lean ====
section
/-! DEFINITION. One step of the machine: the next event of the total order (20_memory.md R64), and how a command word is placed
for the next step to run. -/

namespace Sys2Proof.Machine

/-- One step: the host's next action, or the CORE's next step when the host has none (Machine/Bus.lean). -/
def step (s : State) : Host.Outcome State Fault Refusal := nextEvent s

/-- Place a command word where the next step takes it: as the host's next action, a write of it to CMD (10_state.md R21; log
entry 3). The CORE fetches nothing (20_memory.md R66). -/
def State.withFetchWord (s : State) (nbits w : Nat) : State :=
  { s with env := { s.env with actions := .write 0 (BitVec.ofNat 32 (w % 2 ^ nbits)) :: s.env.actions } }

end Sys2Proof.Machine
end

