-- ==== Sys2Proof/Machine/HostSyntax.lean ====
section
/-! DEFINITION. The host's assembly syntax and its pseudo-instructions, as the host actions they stand for
(30_encoding.md R77, R78). -/

namespace Sys2Proof.Machine

/-- A line of a host program (30_encoding.md R77) or a pseudo-instruction (R78). -/
inductive HostLine where
  /-- `wr REG, imm`. -/
  | wr (r : Reg) (imm : Word)
  /-- `rd REG`. -/
  | rd (r : Reg)
  /-- `cmd MNEMONIC`, `cmd FEISTELK i`, `cmd ROUNDK i`. -/
  | cmd (i : Instr)
  /-- `cmd` with a raw word (95_test_vectors.md P5). -/
  | cmdWord (w : Word)
  /-- `label:` names the next line. -/
  | label (name : String)
  /-- `; text`. -/
  | comment (text : String)
  /-- `poll`. -/
  | poll
  /-- `setkey k, n`. -/
  | setkey (k n : Word)
  /-- `run OP`. -/
  | run (i : Instr)
  /-- `check`. -/
  | check
  /-- `encfile k, n, len`. -/
  | encfile (k n len : Word)
  /-- `decfile k, n, len`. -/
  | decfile (k n len : Word)
  /-- `blk OP, v`. -/
  | blk (i : Instr) (v : Word)
deriving DecidableEq, Repr

/-- `wr REG, imm` is `W(index(REG), imm)`. -/
def wrAction (r : Reg) (v : Word) : HostAction := .write r.index v

/-- `cmd i` is `W(0, word)`. -/
def cmdAction (i : Instr) : HostAction := .write 0 (Sys2Proof.encode i)

/-- `setkey k, n`. -/
def setkeyActions (k n : Word) : List HostAction := [wrAction .key k, wrAction .nr n]

/-- `run OP`. -/
def runActions (i : Instr) : List HostAction := [cmdAction i, .poll]

/-- `check`: `rd STATUS`; the host examines ERR itself. -/
def checkActions : List HostAction := [.read Reg.status.index]

/-- The bus transactions of a line (30_encoding.md R77, R78). -/
def HostLine.actions : HostLine → List HostAction
  | .wr r v => [wrAction r v]
  | .rd r => [.read r.index]
  | .cmd i => [cmdAction i]
  | .cmdWord w => [.write 0 w]
  | .label _ => []
  | .comment _ => []
  | .poll => [.poll]
  | .setkey k n => setkeyActions k n
  | .run i => runActions i
  | .check => checkActions
  | .encfile k n len => setkeyActions k n ++ [wrAction .len len] ++ runActions .encode ++ checkActions
  | .decfile k n len => setkeyActions k n ++ [wrAction .len len] ++ runActions .decode ++ checkActions
  | .blk i v => [wrAction .din v, cmdAction i, .read Reg.dout.index]

/-- A host program's actions, line by line. -/
def programActions (ls : List HostLine) : List HostAction := ls.flatMap HostLine.actions

end Sys2Proof.Machine
end

