-- ==== Sys2Proof/Safety.lean ====
section
/-! DEFINITION. The terms the statements use: what an idle CORE is, the invariants of the spec (10_state.md R22, R23, R31, R33,
R35, R38, R39), the streams the codec computes as functions of bytes (43_stream_codec.md R168, R169), and a safe run:
one the host's own duties (70_reset_and_hazards.md R236) keep from being refused. -/

namespace Sys2Proof.Machine

/-! ## Invariants -/

/-- No command in progress and both ports closed (10_state.md R23, R39). -/
def Idle (s : State) : Prop := s.st.busy = false ∧ s.st.inOpen = false ∧ s.st.outOpen = false

/-- The STATUS invariants of 10_state.md R23, in its order. -/
structure StatusInv (s : State) : Prop where
  rkv_iff_rkn : s.st.rkv = false ↔ s.st.rkn = 0
  busy_iff_phase : s.st.busy = true ↔ s.st.phase ≠ .idle
  idle_ports : s.st.busy = false → s.st.inOpen = false ∧ s.st.outOpen = false ∧ s.st.bidx = 0
  idle_err_done : s.st.busy = false → s.st.err ≠ .noError → s.st.done = true

/-- The round-key file is the schedule of the current KEY and NR, or is clear (10_state.md R35, R36). -/
def ScheduleInv (s : State) : Prop :=
  if s.st.rkv then
    ∃ r, schedule s.cfg s.key s.nr = some r ∧ s.st.rkn = s.nr.extractLsb' 0 4
      ∧ ∀ i : Fin 9, s.rk[i] = r.getD i.val 0
  else s.st.rkn = 0 ∧ ∀ i : Fin 9, s.rk[i] = 0

/-- The legal values of the fields (10_state.md R20, R22, R33, R38). -/
structure RangeInv (s : State) : Prop where
  rkn_le : s.st.rkn.toNat ≤ 9
  pad_le : s.st.pad.toNat ≤ 2
  bidx_le : s.st.bidx.toNat ≤ 2
  dout_lt : s.dout.toNat < 2 ^ 24
  gcnt_le : s.gcnt.toNat ≤ 0x55555555

/-- Where a stream command stands in its streams, phase by phase (10_state.md R31 to R34, R37, R38; 43_stream_codec.md R158 to R167). -/
def StreamPos (s : State) : Prop :=
  match s.st.phase with
  | .idle => True
  | .encHdr =>
    s.icnt = 0 ∧ s.ocnt = 0 ∧ s.gcnt = 0 ∧ s.gtot = 0 ∧ s.st.bidx = 0 ∧ s.st.pad.toNat = padcount s.len.toNat
  | .encRead =>
    s.gtot = 0 ∧ s.st.bidx = 0 ∧ s.st.pad.toNat = padcount s.len.toNat
      ∧ s.icnt.toNat = min (3 * s.gcnt.toNat) s.len.toNat ∧ s.ocnt = 1 + 3 * s.gcnt
      ∧ 3 * s.gcnt.toNat < s.len.toNat + 3
  | .encWrite =>
    s.gtot = 0 ∧ s.wlim = 3 ∧ s.st.bidx.toNat < 3 ∧ s.st.pad.toNat = padcount s.len.toNat
      ∧ s.icnt.toNat = min (3 * s.gcnt.toNat + 3) s.len.toNat ∧ 3 * s.gcnt.toNat < s.len.toNat
      ∧ s.ocnt = 1 + 3 * s.gcnt + s.st.bidx.setWidth 32
  | .decHdr =>
    s.len.toNat % 3 = 1 ∧ s.gtot.toNat = (s.len.toNat - 1) / 3 ∧ s.icnt = 0 ∧ s.ocnt = 0 ∧ s.gcnt = 0
      ∧ s.st.pad = 0 ∧ s.st.bidx = 0
  | .decRead =>
    s.len.toNat = 1 + 3 * s.gtot.toNat ∧ s.gcnt.toNat < s.gtot.toNat ∧ s.st.bidx = 0
      ∧ s.icnt.toNat = 1 + 3 * s.gcnt.toNat ∧ s.ocnt = 3 * s.gcnt
  | .decWrite =>
    s.len.toNat = 1 + 3 * s.gtot.toNat ∧ s.gcnt.toNat < s.gtot.toNat
      ∧ s.wlim.toNat = (if s.gcnt.toNat + 1 = s.gtot.toNat then 3 - s.st.pad.toNat else 3)
      ∧ s.st.bidx.toNat < s.wlim.toNat
      ∧ s.icnt.toNat = 1 + 3 * (s.gcnt.toNat + 1) ∧ s.ocnt = 3 * s.gcnt + s.st.bidx.setWidth 32

/-- The stream invariant: legal fields, the position in the streams, and while a command runs its ports are open, its schedule is
loaded and it has read no more than LEN bytes (10_state.md R31, R35, R39). -/
structure StreamInv (s : State) : Prop where
  status : StatusInv s
  ranges : RangeInv s
  pos : StreamPos s
  busy_open : s.st.busy = true → s.st.inOpen = true ∧ s.st.outOpen = true ∧ s.st.rkv = true
  busy_icnt : s.st.busy = true → s.icnt.toNat ≤ s.len.toNat

/-- The host keeps its duties for the next event (70_reset_and_hazards.md R236): its input stream holds exactly LEN bytes while a
command runs, and it does not change it then. -/
def HostKeepsDuties (s : State) : Prop :=
  (s.st.busy = true → s.env.input.length = s.len.toNat)
    ∧ ∀ bs rest, s.env.actions = .supplyInput bs :: rest → s.st.busy = false

/-! ## The streams as functions of bytes -/

/-- The plaintext groups of a byte sequence: three bytes each, the last possibly fewer (43_stream_codec.md R160). -/
def chunks : List Byte → List (List Byte)
  | [] => []
  | [a] => [[a]]
  | [a, b] => [[a, b]]
  | a :: b :: c :: rest => [a, b, c] :: chunks rest

/-- The three bytes of a group in stream order (43_stream_codec.md R154). -/
def groupBytes (g : Group) : List Byte := [groupByte g 0, groupByte g 1, groupByte g 2]

/-- ENCODE's output for the plaintext `bs`: the padding count, then the encrypted groups (43_stream_codec.md R168,
20_memory.md R54). -/
def encodedStream (cfg : Config) (ks : List Byte) (bs : List Byte) : List Byte :=
  BitVec.ofNat 8 (padcount bs.length)
    :: (chunks bs).flatMap (fun c => groupBytes (encryptGroup cfg ks (unpack c)))

/-- DECODE's output for an encrypted stream: the decrypted groups, less the padding bytes at the end (43_stream_codec.md
R165 to R167). -/
def decodedStream (cfg : Config) (ks : List Byte) : List Byte → List Byte
  | [] => []
  | p :: body =>
    let plain := (chunks body).flatMap (fun c => groupBytes (decryptGroup cfg ks (unpack c)))
    plain.take (plain.length - p.toNat)

/-- How many requests `r` a trace holds. -/
def countRequests (r : Request) (tr : List Observation) : Nat := tr.countP (fun o => o = .request r)

/-! ## Runs -/

/-- `k` steps lead from `s` to `t`. -/
def RunsTo (k : Nat) (s t : State) : Prop := Host.Core.run Sys2Proof.core k s = .next t

/-- The state `s` with these host actions to come. Every state is of this form, with its own actions. -/
def State.awaiting (s : State) (acts : List HostAction) : State := { s with env := { s.env with actions := acts } }

/-- The state `s` with one command to issue and then nothing: the host writes `i`'s word to CMD and lets the CORE run. -/
def State.issuing (s : State) (i : Instr) : State :=
  s.awaiting [.write 0 (Sys2Proof.encode i)]

/-- The host has no action left and the CORE is idle: a run has ended (70_reset_and_hazards.md R243). -/
def Ended (t : State) : Prop := t.env.actions = [] ∧ t.st.busy = false

end Sys2Proof.Machine
end

