-- ==== Sys2Proof/Certificates/Slice0/Obligations.lean ====
section
/-! DEFINITION. The statements for the provers, in the spec's order of files. Every statement quantifies over all states, and so over
all S-boxes and key windows (State's `cfg`), all draws and all host actions, unless its hypotheses say otherwise. `s.awaiting acts`
is the state s with the host actions `acts` to come; every state is of that form. -/

open Sys2Proof Sys2Proof.Machine

/-! ## Encoding (30_encoding.md) -/

/-- 30_encoding.md R74, whole: the legal case of the decoder, an ILLEGAL word's effect, and the dispatch on (op, ksel). -/
def Obligations.CmdDecodeAndDispatch : Prop :=
  (∀ w : Word, (∃ i, decode w = .ok i) ↔
    (if w.extractLsb' 0 4 = 0x4#4 ∨ w.extractLsb' 0 4 = 0x5#4 then
      w.extractLsb' 5 3 = 0 ∧ w.extractLsb' 12 20 = 0
        ∧ (if w.getLsbD 4 then (w.extractLsb' 8 4).toNat ≤ 8 else w.extractLsb' 8 4 = 0)
    else if w.extractLsb' 0 4 = 0xF#4 then False
    else w.extractLsb' 4 28 = 0))
  ∧ (∀ (s : State) (rest : List HostAction) (w : Word), s.st.busy = false → (∀ i, decode w ≠ .ok i) →
      step (s.awaiting (.write 0 w :: rest))
        = .next { s.awaiting rest with st := { s.st with err := .illegal, done := true } })
  ∧ (∀ (s : State) (rest : List HostAction) (w : Word) (i : Instr), s.st.busy = false → decode w = .ok i →
      step (s.awaiting (.write 0 w :: rest)) = exec i (s.awaiting rest)
        ∧ i.opcode = w.extractLsb' 0 4
        ∧ ((∃ j, i = .feistelk j ∨ i = .roundk j) ↔ w.getLsbD 4 = true)
        ∧ ∀ j, i = .feistelk j ∨ i = .roundk j → j = w.extractLsb' 8 4)

/-- The legal words are exactly the 33 of 30_encoding.md section 3 (the list R76 derives). -/
def Obligations.LegalWordsAreExactlyThirtyThree : Prop :=
  legalWords.length = 33 ∧ legalWords.Nodup ∧ ∀ w : Word, (∃ i, decode w = .ok i) ↔ w ∈ legalWords

/-- Decode and encode agree both ways on every word and every well-formed command. -/
def Obligations.DecodeEncodeAgree : Prop :=
  (∀ i : Instr, i.wellFormed = true → decode (encode i) = .ok i)
  ∧ (∀ (w : Word) (i : Instr), decode w = .ok i → encode i = w ∧ i.wellFormed = true)

/-- The words spelled in 30_encoding.md section 4 decode to their commands. -/
def Obligations.SpelledWordsDecode : Prop :=
  decode 0x00000000 = .ok .nop ∧ decode 0x00000001 = .ok .keygen ∧ decode 0x00000002 = .ok .expand
  ∧ decode 0x00000003 = .ok .confuse ∧ decode 0x00000004 = .ok .feistel ∧ decode 0x00000814 = .ok (.feistelk 8)
  ∧ decode 0x00000005 = .ok .round ∧ decode 0x00000115 = .ok (.roundk 1) ∧ decode 0x00000006 = .ok .hswap
  ∧ decode 0x00000007 = .ok .encblk ∧ decode 0x00000008 = .ok .decblk ∧ decode 0x00000009 = .ok .padcnt
  ∧ decode 0x0000000A = .ok .encgrp ∧ decode 0x0000000B = .ok .decgrp ∧ decode 0x0000000C = .ok .encode
  ∧ decode 0x0000000D = .ok .decode ∧ decode 0x0000000E = .ok .clr

/-! ## The register window and the step (10_state.md, 20_memory.md) -/

/-- 10_state.md R21, whole: a word written to CMD while BUSY = 0 is issued (a legal one is executed: the step IS the command's
meaning at the state with the write taken), while BUSY = 1 it is dropped with OVR set, and CMD reads 0. -/
def Obligations.CmdWriteIssuesCommand : Prop :=
  (∀ (s : State) (rest : List HostAction) (w : Word), s.st.busy = false →
    (∀ i, decode w = .ok i → step (s.awaiting (.write 0 w :: rest)) = exec i (s.awaiting rest))
    ∧ ((∃ e, decode w = .error e) → step (s.awaiting (.write 0 w :: rest))
        = .next { s.awaiting rest with st := { s.st with err := .illegal, done := true } }))
  ∧ (∀ (s : State) (rest : List HostAction) (w : Word), s.st.busy = true →
    step (s.awaiting (.write 0 w :: rest)) = .next { s.awaiting rest with st := { s.st with ovr := true } })
  ∧ (∀ s : State, readIndex 0 s = 0)

/-- A step is the host's next action or, when it has none, one CORE step, and an idle CORE keeps all its state (60_exceptions.md
section 5); a word placed by `withFetchWord` is the one an idle CORE runs next. Whose turn it is and where a word is placed are the
model's choices (log entries 3, 5). -/
def Obligations.StepTakesNextEvent : Prop :=
  (∀ (s : State) (w : Word) (i : Instr), s.st.busy = false → decodeTableWord 32 w.toNat = some i →
    decode w = .ok i ∧ step (s.withFetchWord 32 w.toNat) = exec i s)
  ∧ (∀ s : State, s.env.actions = [] → step s = coreStep s ∧ (s.st.phase = .idle → step s = .next s))
  ∧ (∀ (s : State) (a : HostAction) (rest : List HostAction), step (s.awaiting (a :: rest)) = hostAct a (s.awaiting rest))

/-- 10_state.md R43, whole: writes while busy are dropped and set OVR, only CLR and reset clear OVR, and nothing but reset and the
CORE's own steps changes a command in progress. -/
def Obligations.BusyWritesAreDropped : Prop :=
  (∀ (s : State) (rest : List HostAction) (i : Fin 64) (v : Word), s.st.busy = true →
    i = 0 ∨ i = 2 ∨ i = 3 ∨ i = 4 ∨ i = 5 ∨ i = 7 →
      step (s.awaiting (.write i v :: rest)) = .next { s.awaiting rest with st := { s.st with ovr := true } })
  ∧ (∀ s t : State, step s = .next t → s.st.ovr = true → t.st.ovr = false →
      (∃ rest, s.env.actions = .reset :: rest)
      ∨ (s.st.busy = false ∧ ∃ rest, s.env.actions = .write 0 0x0000000E :: rest))
  ∧ (∀ (s t : State) (a : HostAction) (rest : List HostAction), s.st.busy = true → s.env.actions = a :: rest →
      a ≠ .reset → a ≠ .coreTurn → step s = .next t →
        t = { s with st := { s.st with ovr := t.st.ovr }, env := t.env })

/-- 10_state.md R40 and R44, whole: reserved and read-only indices ignore writes at any time without OVR; a read at any time
returns the current value, reserved indices and bits read 0; writes to reserved bits are ignored. -/
def Obligations.ReadsAndIgnoredWrites : Prop :=
  (∀ (s : State) (rest : List HostAction) (i : Fin 64) (v : Word),
    i = 1 ∨ i = 6 ∨ 8 ≤ i → step (s.awaiting (.write i v :: rest)) = .next (s.awaiting rest))
  ∧ (∀ (s : State) (rest : List HostAction) (i : Fin 64),
      step (s.awaiting (.read i :: rest))
        = .next { s.awaiting rest with
            env := { (s.awaiting rest).env with trace := .value i (readIndex i s) :: s.env.trace } })
  ∧ (∀ s : State, readIndex 0 s = 0 ∧ readIndex 1 s = statusWord s.st ∧ readIndex 2 s = s.key.setWidth 32
      ∧ readIndex 3 s = s.nr ∧ readIndex 4 s = s.din ∧ readIndex 5 s = s.sk.setWidth 32 ∧ readIndex 6 s = s.dout
      ∧ readIndex 7 s = s.len ∧ readIndex 8 s = s.buf.setWidth 32 ∧ readIndex 9 s = s.icnt ∧ readIndex 10 s = s.ocnt
      ∧ readIndex 11 s = s.gcnt ∧ readIndex 12 s = s.gtot
      ∧ (∀ k : Fin 9, readIndex ⟨16 + k.val, by omega⟩ s = (s.rk[k]).setWidth 32)
      ∧ (∀ i : Fin 64, (13 ≤ i ∧ i ≤ 15) ∨ 25 ≤ i → readIndex i s = 0))
  ∧ (∀ s : State, (readIndex 2 s).extractLsb' 9 23 = 0 ∧ (readIndex 5 s).extractLsb' 8 24 = 0
      ∧ (readIndex 8 s).extractLsb' 24 8 = 0 ∧ (readIndex 1 s).extractLsb' 22 10 = 0
      ∧ ∀ k : Fin 9, (readIndex ⟨16 + k.val, by omega⟩ s).extractLsb' 8 24 = 0)
  ∧ (∀ (s : State) (v v' : Word), (v.extractLsb' 0 9 = v'.extractLsb' 0 9 → hostWrite 2 v s = hostWrite 2 v' s)
      ∧ (v.extractLsb' 0 8 = v'.extractLsb' 0 8 → hostWrite 5 v s = hostWrite 5 v' s))

/-- 10_state.md R24 and R25, whole, and the accepted writes of R26, R27 and R29: what a write to an operand register does while
BUSY = 0. -/
def Obligations.AcceptedOperandWrites : Prop :=
  (∀ (s : State) (rest : List HostAction) (v : Word), s.st.busy = false →
    step (s.awaiting (.write 2 v :: rest))
        = .next { s.awaiting rest with
            key := v.extractLsb' 0 9, rk := zeroRk, st := { s.st with rkv := false, rkn := 0 } }
    ∧ step (s.awaiting (.write 3 v :: rest))
        = .next { s.awaiting rest with nr := v, rk := zeroRk, st := { s.st with rkv := false, rkn := 0 } }
    ∧ step (s.awaiting (.write 4 v :: rest)) = .next { s.awaiting rest with din := v }
    ∧ step (s.awaiting (.write 5 v :: rest)) = .next { s.awaiting rest with sk := v.extractLsb' 0 8 }
    ∧ step (s.awaiting (.write 7 v :: rest)) = .next { s.awaiting rest with len := v })
  ∧ (∀ (s : State) (v : Word), readIndex 2 { s with key := v.extractLsb' 0 9 } = (v.extractLsb' 0 9).setWidth 32)
  ∧ State.reset.key = 0 ∧ State.reset.nr = 0

/-- The places of STATUS's fields (10_state.md section 2), the codes of ERR (60_exceptions.md section 1) and of PHASE (10_state.md
section 6). -/
def Obligations.StatusWordLayout : Prop :=
  (∀ st : Status,
    (statusWord st).getLsbD 0 = st.busy ∧ (statusWord st).getLsbD 1 = st.done ∧ (statusWord st).getLsbD 2 = st.rkv
    ∧ (statusWord st).getLsbD 3 = st.ovr ∧ (statusWord st).extractLsb' 4 4 = st.err.code
    ∧ (statusWord st).extractLsb' 8 4 = st.rkn ∧ (statusWord st).extractLsb' 12 4 = st.phase.code
    ∧ (statusWord st).extractLsb' 16 2 = st.pad ∧ (statusWord st).extractLsb' 18 2 = st.bidx
    ∧ (statusWord st).getLsbD 20 = st.inOpen ∧ (statusWord st).getLsbD 21 = st.outOpen
    ∧ (statusWord st).extractLsb' 22 10 = 0)
  ∧ ErrCode.noError.code = 0 ∧ ErrCode.config.code = 1 ∧ ErrCode.format.code = 2 ∧ ErrCode.ioOpen.code = 3
  ∧ ErrCode.ioRead.code = 4 ∧ ErrCode.ioWrite.code = 5 ∧ ErrCode.noKeys.code = 6 ∧ ErrCode.illegal.code = 7
  ∧ Phase.idle.code = 0 ∧ Phase.encHdr.code = 1 ∧ Phase.encRead.code = 2 ∧ Phase.encWrite.code = 3
  ∧ Phase.decHdr.code = 4 ∧ Phase.decRead.code = 5 ∧ Phase.decWrite.code = 6

/-! ## Key schedule (40_key_schedule.md) -/

/-- 40_key_schedule.md R104, whole: KEYGEN loads the schedule of KEY and NR, each subkey bit being the key bit the window names, or
raises CONFIG and clears the file. That each subkey bit is a key bit for EVERY window, and so that K = 0 and K = 0x1FF give 0x00 and
0xFF for every window, is the model's choice (log entry 2: a window is a selection of key bits); the spec's rule says it of its own
window. The example's subkeys are those of the spec's default window. -/
def Obligations.KeygenResult : Prop :=
  decode 0x00000001 = .ok .keygen
  ∧ (∀ s : State, s.nr.toNat = 0 ∨ 9 < s.nr.toNat →
      exec .keygen s
        = .next { s with rk := zeroRk, st := { s.st with err := .config, done := true, rkv := false, rkn := 0 } })
  ∧ (∀ s : State, 1 ≤ s.nr.toNat → s.nr.toNat ≤ 9 → ∃ rk' : Vector Byte 9,
      exec .keygen s
        = .next { s with
            rk := rk', st := { s.st with err := .noError, done := true, rkv := true, rkn := s.nr.extractLsb' 0 4 } }
      ∧ (∀ (i : Fin 9) (j : Fin 8), i.val < s.nr.toNat →
          (rk'[i]).getLsbD (7 - j.val) = s.key.getLsbD (s.cfg.ksWindow[i][j]).val)
      ∧ (∀ i : Fin 9, s.nr.toNat ≤ i.val → rk'[i] = 0)
      ∧ (s.key = 0 → ∀ i : Fin 9, rk'[i] = 0)
      ∧ (s.key = 0x1FF → ∀ i : Fin 9, i.val < s.nr.toNat → rk'[i] = 0xFF)
      ∧ (s.cfg.ksWindow = defaultKsWindow → s.key = 0x1C0 → s.nr = 2 → rk' = #v[0xE0, 0xC0, 0, 0, 0, 0, 0, 0, 0]))
  ∧ (∀ s t : State, exec .keygen s = .next t → exec .keygen t = .next t)
  ∧ (∀ (s : State) (rest : List HostAction), s.st.busy = true →
      step (s.awaiting (.write 0 0x00000001 :: rest)) = .next { s.awaiting rest with st := { s.st with ovr := true } })

/-- The three forms of the default window agree (40_key_schedule.md section 1: the doubled key shifted, the bit rule, the rotated
key), for every key and every i below 9. Rests on the spec's default window, log entry 2. -/
def Obligations.DefaultWindowThreeForms : Prop :=
  ∀ (cfg : Config) (K : Key) (i : Fin 9), cfg.ksWindow = defaultKsWindow →
    subkey cfg K i = (((K ++ K) >>> (10 - i.val)).extractLsb' 0 8)
    ∧ (∀ j : Fin 8, (subkey cfg K i).getLsbD (7 - j.val) = K.getLsbD (8 - (i.val + j.val) % 9))
    ∧ subkey cfg K i = (K.rotateLeft i.val).extractLsb' 1 8

/-! ## Feistel mixer (41_feistel.md) -/

/-- 41_feistel.md R110 and R118: EXPAND's result bit by bit, its corner cases and its example. -/
def Obligations.ExpandResult : Prop :=
  decode 0x00000002 = .ok .expand
  ∧ (∀ s : State, ∃ v : Word,
      exec .expand s = .next { s with dout := v, st := { s.st with err := .noError, done := true } }
      ∧ v.getLsbD 7 = s.din.getLsbD 5 ∧ v.getLsbD 6 = s.din.getLsbD 4 ∧ v.getLsbD 5 = s.din.getLsbD 2
      ∧ v.getLsbD 4 = s.din.getLsbD 3 ∧ v.getLsbD 3 = s.din.getLsbD 2 ∧ v.getLsbD 2 = s.din.getLsbD 3
      ∧ v.getLsbD 1 = s.din.getLsbD 1 ∧ v.getLsbD 0 = s.din.getLsbD 0
      ∧ v.extractLsb' 8 24 = 0
      ∧ (s.din.extractLsb' 0 6 = 0 → v = 0) ∧ (s.din.extractLsb' 0 6 = 0x3F → v = 0xFF)
      ∧ (s.din = 0xFFFFFFC0 → v = 0) ∧ (s.din = 0x26 → v = 0xAA))

/-- 41_feistel.md R112 and R119: CONFUSE's result, SBOX1 of the high nibble in bits [5:3] and SBOX2 of the low one in [2:0]. The two
examples are under the spec's default S-boxes. -/
def Obligations.ConfuseResult : Prop :=
  decode 0x00000003 = .ok .confuse
  ∧ (∀ s : State, ∃ v : Word,
      exec .confuse s = .next { s with dout := v, st := { s.st with err := .noError, done := true } }
      ∧ v.extractLsb' 3 3 = s.cfg.sbox1[(s.din.extractLsb' 4 4).toNat]'(BitVec.isLt _)
      ∧ v.extractLsb' 0 3 = s.cfg.sbox2[(s.din.extractLsb' 0 4).toNat]'(BitVec.isLt _)
      ∧ v.extractLsb' 6 26 = 0
      ∧ (s.din.extractLsb' 0 8 = 0 → v = (s.cfg.sbox1[0] ++ s.cfg.sbox2[0]).setWidth 32)
      ∧ (s.cfg.sbox1 = defaultSbox1 → s.cfg.sbox2 = defaultSbox2 →
          (s.din = 0xCF → v = 0x04) ∧ (s.din = 0x00 → v = 0x2C)))
  ∧ (∀ cfg : Config, (confuse cfg 0x0F).extractLsb' 3 3 = (confuse cfg 0x00).extractLsb' 3 3)

/-- 41_feistel.md R115 and R120: FEISTEL is confuse(expand(half) XOR subkey) with the subkey from SK, schedule or none. -/
def Obligations.FeistelResult : Prop :=
  decode 0x00000004 = .ok .feistel
  ∧ (∀ s : State, ∃ v : Word,
      exec .feistel s = .next { s with dout := v, st := { s.st with err := .noError, done := true } }
      ∧ v = (confuse s.cfg (expand (s.din.extractLsb' 0 6) ^^^ s.sk)).setWidth 32
      ∧ v.extractLsb' 6 26 = 0
      ∧ (s.sk = 0 → v = (confuse s.cfg (expand (s.din.extractLsb' 0 6))).setWidth 32)
      ∧ (s.sk = expand (s.din.extractLsb' 0 6) → v = (confuse s.cfg 0).setWidth 32)
      ∧ (s.cfg.sbox1 = defaultSbox1 → s.cfg.sbox2 = defaultSbox2 → s.din = 0x26 → s.sk = 0x65 → v = 0x04))
  ∧ (∀ (cfg : Config) (h : Half) (k : Byte), feistel cfg h k = confuse cfg (expand h ^^^ k))

/-- 41_feistel.md R121: FEISTELK i takes RK[i] when i is below RKN and raises NOKEYS with DOUT unchanged when it is not; an index
above 8 is no command. -/
def Obligations.FeistelkResult : Prop :=
  (∀ i : BitVec 4, (decode (0x00000014#32 ||| (i.setWidth 32 <<< 8)) = .ok (.feistelk i) ↔ i.toNat ≤ 8)
    ∧ (8 < i.toNat → ∃ e, decode (0x00000014#32 ||| (i.setWidth 32 <<< 8)) = .error e))
  ∧ (∀ (s : State) (i : Fin 9), i.val < s.st.rkn.toNat →
      exec (.feistelk (BitVec.ofNat 4 i.val)) s
        = .next { s with
            dout := (feistel s.cfg (s.din.extractLsb' 0 6) s.rk[i]).setWidth 32
            st := { s.st with err := .noError, done := true } })
  ∧ (∀ (s : State) (i : BitVec 4), s.st.rkn.toNat ≤ i.toNat →
      exec (.feistelk i) s = .next { s with st := { s.st with err := .noKeys, done := true } })
  ∧ (∀ s t : State, s.cfg = defaultConfig → s.key = 0x099 → s.nr = 9 → exec .keygen s = .next t →
      ∃ u, exec (.feistelk 3) { t with din := 0x26 } = .next u ∧ u.dout = 0x04)

/-- 41_feistel.md R122, whole, with R117's formula: ROUND's left half is the old right half, its right half the old left half XOR f. -/
def Obligations.RoundResult : Prop :=
  decode 0x00000005 = .ok .round
  ∧ (∀ s : State, ∃ v : Word,
      exec .round s = .next { s with dout := v, st := { s.st with err := .noError, done := true } }
      ∧ v.extractLsb' 6 6 = s.din.extractLsb' 0 6
      ∧ v.extractLsb' 0 6 = feistel s.cfg (s.din.extractLsb' 0 6) s.sk ^^^ s.din.extractLsb' 6 6
      ∧ v.extractLsb' 12 20 = 0
      ∧ (s.cfg.sbox1 = defaultSbox1 → s.cfg.sbox2 = defaultSbox2 → s.din = 0x726 → s.sk = 0x65 → v = 0x998))
  ∧ (∃ (s t u : State), exec .round s = .next t ∧ exec .round { t with din := t.dout } = .next u
      ∧ u.dout ≠ (s.din.extractLsb' 0 12).setWidth 32)
  ∧ (∃ (cfg : Config) (b : Block) (k : Byte), Machine.round cfg (Machine.round cfg b k) k ≠ b)

/-- ROUNDK i's result and its NOKEYS (41_feistel.md section 2, R123 but for the corner case it derives). -/
def Obligations.RoundkResult : Prop :=
  (∀ i : BitVec 4, (decode (0x00000015#32 ||| (i.setWidth 32 <<< 8)) = .ok (.roundk i) ↔ i.toNat ≤ 8)
    ∧ (8 < i.toNat → ∃ e, decode (0x00000015#32 ||| (i.setWidth 32 <<< 8)) = .error e))
  ∧ (∀ (s : State) (i : Fin 9), i.val < s.st.rkn.toNat → ∃ v : Word,
      exec (.roundk (BitVec.ofNat 4 i.val)) s
        = .next { s with dout := v, st := { s.st with err := .noError, done := true } }
      ∧ v.extractLsb' 6 6 = s.din.extractLsb' 0 6
      ∧ v.extractLsb' 0 6 = feistel s.cfg (s.din.extractLsb' 0 6) s.rk[i] ^^^ s.din.extractLsb' 6 6
      ∧ v.extractLsb' 12 20 = 0)
  ∧ (∀ (s : State) (i : BitVec 4), s.st.rkn.toNat ≤ i.toNat →
      exec (.roundk i) s = .next { s with st := { s.st with err := .noKeys, done := true } })

/-- Each round is a bijection on blocks with the inverse 41_feistel.md section 1 gives, for every S-box and every subkey. -/
def Obligations.RoundIsInvertible : Prop :=
  ∀ (cfg : Config) (k : Byte) (b : Block),
    (let b' := Machine.round cfg b k
     (b'.extractLsb' 0 6 ^^^ feistel cfg (b'.extractLsb' 6 6) k) ++ b'.extractLsb' 6 6 = b)
    ∧ Machine.round cfg ((b.extractLsb' 0 6 ^^^ feistel cfg (b.extractLsb' 6 6) k) ++ b.extractLsb' 6 6 : BitVec (6 + 6)) k = b

/-! ## Block cipher (42_block_cipher.md) -/

/-- 42_block_cipher.md R134, whole: HSWAP swaps the halves. -/
def Obligations.HswapResult : Prop :=
  decode 0x00000006 = .ok .hswap
  ∧ (∀ s : State, ∃ v : Word,
      exec .hswap s = .next { s with dout := v, st := { s.st with err := .noError, done := true } }
      ∧ v = (hswap (s.din.extractLsb' 0 12)).setWidth 32
      ∧ v.extractLsb' 6 6 = s.din.extractLsb' 0 6 ∧ v.extractLsb' 0 6 = s.din.extractLsb' 6 6
      ∧ v.extractLsb' 12 20 = 0
      ∧ (s.din.extractLsb' 0 6 = s.din.extractLsb' 6 6 → v = (s.din.extractLsb' 0 12).setWidth 32)
      ∧ (s.din = 0x123 → v = 0x8C4) ∧ (s.din = 0xFC0 → v = 0x03F)
      ∧ ∃ u, exec .hswap { s with dout := v, din := v, st := { s.st with err := .noError, done := true } } = .next u
          ∧ u.dout = (s.din.extractLsb' 0 12).setWidth 32)

/-- ENCBLK and DECBLK with a schedule loaded: the rounds with RK[0..RKN-1] in forward or reverse order and one half-swap; without
one: NOKEYS and nothing else (42_block_cipher.md section 2). -/
def Obligations.BlockCommandResults : Prop :=
  decode 0x00000007 = .ok .encblk ∧ decode 0x00000008 = .ok .decblk
  ∧ (∀ s : State, s.st.rkv = true →
      exec .encblk s
        = .next { s with
            dout := (hswap ((s.rk.toList.take s.st.rkn.toNat).foldl (Machine.round s.cfg) (s.din.extractLsb' 0 12))).setWidth 32
            st := { s.st with err := .noError, done := true } }
      ∧ exec .decblk s
        = .next { s with
            dout := (hswap ((s.rk.toList.take s.st.rkn.toNat).reverse.foldl (Machine.round s.cfg)
              (s.din.extractLsb' 0 12))).setWidth 32
            st := { s.st with err := .noError, done := true } })
  ∧ (∀ s : State, s.st.rkv = false →
      exec .encblk s = .next { s with st := { s.st with err := .noKeys, done := true } }
      ∧ exec .decblk s = .next { s with st := { s.st with err := .noKeys, done := true } })

/-- The inverse law of 42_block_cipher.md section 3, both ways, for every list of subkeys and every S-box, and on the machine:
DECBLK of ENCBLK's DOUT returns the block, and the other way round. -/
def Obligations.DecryptInvertsEncrypt : Prop :=
  (∀ (cfg : Config) (ks : List Byte) (b : Block),
    decrypt cfg ks (encrypt cfg ks b) = b ∧ encrypt cfg ks (decrypt cfg ks b) = b)
  ∧ (∀ s : State, s.st.rkv = true →
      (∃ t u, exec .encblk s = .next t ∧ exec .decblk { t with din := t.dout } = .next u
        ∧ u.dout = (s.din.extractLsb' 0 12).setWidth 32)
      ∧ (∃ t u, exec .decblk s = .next t ∧ exec .encblk { t with din := t.dout } = .next u
        ∧ u.dout = (s.din.extractLsb' 0 12).setWidth 32))

/-- For one round ENCBLK and DECBLK are the same function and it undoes itself (42_block_cipher.md section 3). -/
def Obligations.OneRoundIsInvolution : Prop :=
  ∀ (cfg : Config) (b : Block) (k : Byte),
    encrypt cfg [k] b = decrypt cfg [k] b ∧ encrypt cfg [k] b = hswap (Machine.round cfg b k)
    ∧ hswap (Machine.round cfg (hswap (Machine.round cfg b k)) k) = b

/-! ## Stream codec (43_stream_codec.md) -/

/-- 43_stream_codec.md R150 and R155, whole: PADCNT. -/
def Obligations.PadcntResult : Prop :=
  decode 0x00000009 = .ok .padcnt
  ∧ (∀ s : State, ∃ v : Word,
      exec .padcnt s = .next { s with dout := v, st := { s.st with err := .noError, done := true } }
      ∧ v.toNat = (3 - s.len.toNat % 3) % 3
      ∧ (s.len.toNat + v.toNat) % 3 = 0 ∧ v.toNat ≤ 2
      ∧ (s.len.toNat % 3 = 0 → v = 0) ∧ (s.len.toNat % 3 = 1 → v = 2) ∧ (s.len.toNat % 3 = 2 → v = 1)
      ∧ (s.len = 0 → v = 0) ∧ (s.len = 1 → v = 2) ∧ (s.len = 2 → v = 1) ∧ (s.len = 0xFFFFFFFF → v = 0)
      ∧ (s.len = 0xFFFFFFFE → v = 1) ∧ (s.len = 4 → v = 2))

/-- ENCGRP and DECGRP: the low and the high block through the cipher on their own, or NOKEYS and nothing else (43_stream_codec.md
section 2). -/
def Obligations.GroupCommandResults : Prop :=
  decode 0x0000000A = .ok .encgrp ∧ decode 0x0000000B = .ok .decgrp
  ∧ (∀ s : State, s.st.rkv = true → ∃ v v' : Word,
      exec .encgrp s = .next { s with dout := v, st := { s.st with err := .noError, done := true } }
      ∧ v.extractLsb' 0 12 = encrypt s.cfg (s.rk.toList.take s.st.rkn.toNat) (s.din.extractLsb' 0 12)
      ∧ v.extractLsb' 12 12 = encrypt s.cfg (s.rk.toList.take s.st.rkn.toNat) (s.din.extractLsb' 12 12)
      ∧ v.extractLsb' 24 8 = 0
      ∧ exec .decgrp s = .next { s with dout := v', st := { s.st with err := .noError, done := true } }
      ∧ v'.extractLsb' 0 12 = decrypt s.cfg (s.rk.toList.take s.st.rkn.toNat) (s.din.extractLsb' 0 12)
      ∧ v'.extractLsb' 12 12 = decrypt s.cfg (s.rk.toList.take s.st.rkn.toNat) (s.din.extractLsb' 12 12)
      ∧ v'.extractLsb' 24 8 = 0)
  ∧ (∀ s : State, s.st.rkv = false →
      exec .encgrp s = .next { s with st := { s.st with err := .noKeys, done := true } }
      ∧ exec .decgrp s = .next { s with st := { s.st with err := .noKeys, done := true } })

/-- DECGRP of ENCGRP's result under the same schedule returns the group (43_stream_codec.md section 2). -/
def Obligations.DecgrpInvertsEncgrp : Prop :=
  (∀ (cfg : Config) (ks : List Byte) (g : Group),
    decryptGroup cfg ks (encryptGroup cfg ks g) = g ∧ encryptGroup cfg ks (decryptGroup cfg ks g) = g)
  ∧ (∀ s : State, s.st.rkv = true → ∃ t u, exec .encgrp s = .next t ∧ exec .decgrp { t with din := t.dout } = .next u
      ∧ u.dout = (s.din.extractLsb' 0 24).setWidth 32)

/-- A round count out of range ends ENCODE and DECODE in CONFIG before any port request: no stream is opened and nothing is written,
the counters are cleared and the schedule freed (43_stream_codec.md section 1, R151 with R152). That the output may not be relied on
after the error is 43_stream_codec.md section 5 (R171) in the form of log entry 7. -/
def Obligations.StreamStartConfigError : Prop :=
  ∀ (s : State) (i : Instr), i = .encode ∨ i = .decode → Idle s → s.nr.toNat = 0 ∨ 9 < s.nr.toNat →
    exec i s = .next { s with
      icnt := 0, ocnt := 0, gcnt := 0, gtot := 0, wlim := 3, rk := zeroRk
      st := { s.st with
        err := .config, done := true, rkv := false, rkn := 0, pad := 0, bidx := 0, phase := .idle, busy := false }
      env := { s.env with outputTrusted := false } }

/-- ENCODE's start step with both streams opened: its own schedule, the padding count, BUSY and the phase ENC_HDR; a stream that
fails to open is IO_OPEN with every opened port closed (43_stream_codec.md section 3, R158's start step). That the
output starts empty is log entry 6; that it is trusted once opened, and untrusted after the error (R171), is log entry 7. -/
def Obligations.EncodeStart : Prop :=
  ∀ (s : State) (r : List Byte) (rest : List Answer), Idle s → schedule s.cfg s.key s.nr = some r →
    (s.env.answers = .ok :: .ok :: rest → ∃ rk' : Vector Byte 9, (∀ k : Fin 9, rk'[k] = r.getD k.val 0) ∧
      exec .encode s = .next { s with
        icnt := 0, ocnt := 0, gcnt := 0, gtot := 0, wlim := 3, rk := rk'
        st := { s.st with
          err := .noError, done := false, rkv := true, rkn := s.nr.extractLsb' 0 4, bidx := 0, inOpen := true
          outOpen := true, pad := BitVec.ofNat 2 ((3 - s.len.toNat % 3) % 3), busy := true, phase := .encHdr }
        env := { s.env with
          output := [], outputTrusted := true, answers := rest
          trace := .request .outOpen :: .request .inOpen :: s.env.trace } })
    ∧ (s.env.answers = .error :: rest →
      exec .encode s = .next { s with
        icnt := 0, ocnt := 0, gcnt := 0, gtot := 0, wlim := 3, rk := zeroRk
        st := { s.st with
          err := .ioOpen, done := true, rkv := false, rkn := 0, pad := 0, bidx := 0, phase := .idle, busy := false }
        env := { s.env with
          outputTrusted := false, answers := rest, trace := .request .inOpen :: s.env.trace } })
    ∧ (s.env.answers = .ok :: .error :: rest →
      exec .encode s = .next { s with
        icnt := 0, ocnt := 0, gcnt := 0, gtot := 0, wlim := 3, rk := zeroRk
        st := { s.st with
          err := .ioOpen, done := true, rkv := false, rkn := 0, pad := 0, bidx := 0, phase := .idle, busy := false }
        env := { s.env with
          outputTrusted := false, answers := rest
          trace := .request .inClose :: .request .outOpen :: .request .inOpen :: s.env.trace } })

/-- DECODE's start step with both streams opened: GTOT = (LEN - 1) div 3, BUSY and the phase DEC_HDR; IO_OPEN at either stream
(43_stream_codec.md section 4, R162's start step and R164's count). That the output starts empty is log entry 6; that it is trusted once
opened, and untrusted after an error (section 5, R171), is log entry 7. -/
def Obligations.DecodeStart : Prop :=
  ∀ (s : State) (r : List Byte) (rest : List Answer), Idle s → schedule s.cfg s.key s.nr = some r →
    (s.env.answers = .error :: rest →
      exec .decode s = .next { s with
        icnt := 0, ocnt := 0, gcnt := 0, gtot := 0, wlim := 3, rk := zeroRk
        st := { s.st with
          err := .ioOpen, done := true, rkv := false, rkn := 0, pad := 0, bidx := 0, phase := .idle, busy := false }
        env := { s.env with
          outputTrusted := false, answers := rest, trace := .request .inOpen :: s.env.trace } })
    ∧ (s.len.toNat % 3 = 1 →
      (s.env.answers = .ok :: .ok :: rest → ∃ rk' : Vector Byte 9, (∀ k : Fin 9, rk'[k] = r.getD k.val 0) ∧
        exec .decode s = .next { s with
          icnt := 0, ocnt := 0, gcnt := 0, gtot := BitVec.ofNat 32 ((s.len.toNat - 1) / 3), wlim := 3, rk := rk'
          st := { s.st with
            err := .noError, done := false, rkv := true, rkn := s.nr.extractLsb' 0 4, pad := 0, bidx := 0
            inOpen := true, outOpen := true, busy := true, phase := .decHdr }
          env := { s.env with
            output := [], outputTrusted := true, answers := rest
            trace := .request .outOpen :: .request .inOpen :: s.env.trace } })
      ∧ (s.env.answers = .ok :: .error :: rest →
        exec .decode s = .next { s with
          icnt := 0, ocnt := 0, gcnt := 0, gtot := 0, wlim := 3, rk := zeroRk
          st := { s.st with
            err := .ioOpen, done := true, rkv := false, rkn := 0, pad := 0, bidx := 0, phase := .idle, busy := false }
          env := { s.env with
            outputTrusted := false, answers := rest
            trace := .request .inClose :: .request .outOpen :: .request .inOpen :: s.env.trace } }))

/-- 43_stream_codec.md R163, whole: a LEN not congruent to 1 mod 3 is a FORMAT error of DECODE, after the input is opened and before the
output is, with no byte read and none written. That the output may not be relied on after the error is section 5 (R171) in the form of
log entry 7. -/
def Obligations.DecodeLengthError : Prop :=
  ∀ (s : State) (r : List Byte) (rest : List Answer), Idle s → schedule s.cfg s.key s.nr = some r →
    s.env.answers = .ok :: rest → s.len.toNat % 3 ≠ 1 →
      exec .decode s = .next { s with
        icnt := 0, ocnt := 0, gcnt := 0, gtot := 0, wlim := 3, rk := zeroRk
        st := { s.st with
          err := .format, done := true, rkv := false, rkn := 0, pad := 0, bidx := 0, phase := .idle, busy := false }
        env := { s.env with
          outputTrusted := false, answers := rest
          trace := .request .inClose :: .request .inOpen :: s.env.trace } }

/-- 43_stream_codec.md R159 and R161, whole: ENC_HDR writes the padding count, ENC_WRITE byte BIDX of BUF; a WriteErr is IO_WRITE.
That a WriteErr leaves the output untrusted is section 5 (R171) in the form of log entry 7. -/
def Obligations.EncodeWriteSteps : Prop :=
  (∀ (s : State) (rest : List Answer), s.st.phase = .encHdr →
    (s.env.answers = .ok :: rest → coreStep s = .next { s with
      ocnt := s.ocnt + 1, st := { s.st with phase := .encRead }
      env := { s.env with
        output := s.env.output ++ [s.st.pad.setWidth 8], answers := rest
        trace := .request (.outWrite (s.st.pad.setWidth 8)) :: s.env.trace } })
    ∧ (s.env.answers = .error :: rest → ∃ t, coreStep s = .next t ∧ t.st.err = .ioWrite ∧ t.st.done = true
        ∧ t.st.busy = false ∧ t.ocnt = s.ocnt ∧ t.env.outputTrusted = false))
  ∧ (∀ (s : State) (rest : List Answer), s.st.phase = .encWrite →
    (s.env.answers = .ok :: rest → coreStep s = .next { s with
      ocnt := s.ocnt + 1
      gcnt := if s.st.bidx = 2 then s.gcnt + 1 else s.gcnt
      st := { s.st with
        phase := if s.st.bidx = 2 then .encRead else .encWrite
        bidx := if s.st.bidx = 2 then 0 else s.st.bidx + 1 }
      env := { s.env with
        output := s.env.output ++ [s.buf.extractLsb' (8 * s.st.bidx.toNat) 8], answers := rest
        trace := .request (.outWrite (s.buf.extractLsb' (8 * s.st.bidx.toNat) 8)) :: s.env.trace } })
    ∧ (s.env.answers = .error :: rest → ∃ t, coreStep s = .next t ∧ t.st.err = .ioWrite ∧ t.st.done = true
        ∧ t.st.busy = false ∧ t.ocnt = s.ocnt ∧ t.env.outputTrusted = false))

/-- 43_stream_codec.md R160: ENC_READ reads up to three bytes, encrypts the group g in the same step and never shows it in the clear; a
zero-byte read ends the command with NONE, a ReadErr with IO_READ. Byte j of g is the j-th byte read, or 0 where a short final read has
none. The input stream holds exactly LEN bytes (70_reset_and_hazards.md R236). -/
def Obligations.EncodeReadStep : Prop :=
  ∀ (s : State) (rest : List Answer), s.st.phase = .encRead →
    (s.env.answers = .error :: rest → ∃ t, coreStep s = .next t ∧ t.st.err = .ioRead ∧ t.st.done = true ∧ t.st.busy = false
      ∧ t.icnt = s.icnt ∧ t.buf = s.buf)
    ∧ (s.env.answers = .ok :: rest → s.env.input.length = s.len.toNat → s.len.toNat ≤ s.icnt.toNat →
      ∃ t, coreStep s = .next t ∧ t.st.err = .noError
      ∧ t.st.done = true ∧ t.st.busy = false ∧ t.icnt = s.icnt ∧ t.buf = s.buf)
    ∧ (s.env.answers = .ok :: rest → s.env.input.length = s.len.toNat → s.icnt.toNat < s.len.toNat → ∃ g b : Group,
      (∀ j : Fin 3, g.extractLsb' (8 * j.val) 8
        = if s.icnt.toNat + j.val < s.len.toNat then s.env.input.getD (s.icnt.toNat + j.val) 0 else 0)
      ∧ b.extractLsb' 0 12 = encrypt s.cfg (s.rk.toList.take s.st.rkn.toNat) (g.extractLsb' 0 12)
      ∧ b.extractLsb' 12 12 = encrypt s.cfg (s.rk.toList.take s.st.rkn.toNat) (g.extractLsb' 12 12)
      ∧ coreStep s = .next { s with
        icnt := s.icnt + BitVec.ofNat 32 (min 3 (s.len.toNat - s.icnt.toNat))
        buf := b
        wlim := 3
        st := { s.st with phase := .encWrite, bidx := 0 }
        env := { s.env with answers := rest, trace := .request (.inRead 3) :: s.env.trace } })

/-- 43_stream_codec.md R165, whole: DEC_HDR consumes one byte, ICNT <- 1, and takes it as the padding count, or ends in FORMAT, IO_READ
or, with no groups, NONE. The input stream holds exactly LEN bytes (70_reset_and_hazards.md R236). -/
def Obligations.DecodeHeaderStep : Prop :=
  ∀ (s : State) (rest : List Answer), s.st.phase = .decHdr →
    (s.env.answers = .error :: rest → ∃ t, coreStep s = .next t ∧ t.st.err = .ioRead ∧ t.st.done = true ∧ t.st.busy = false
      ∧ t.icnt = s.icnt ∧ t.st.pad = s.st.pad)
    ∧ (∀ (p : Byte) (tail : List Byte), s.env.answers = .ok :: rest → s.env.input.length = s.len.toNat →
        s.env.input.drop s.icnt.toNat = p :: tail →
      (2 < p.toNat ∨ (s.gtot = 0 ∧ p ≠ 0) → ∃ t, coreStep s = .next t ∧ t.st.err = .format ∧ t.st.done = true
        ∧ t.st.busy = false ∧ t.icnt = 1 ∧ t.st.pad = s.st.pad)
      ∧ (s.gtot = 0 → p = 0 → ∃ t, coreStep s = .next t ∧ t.st.err = .noError ∧ t.st.done = true ∧ t.st.busy = false
        ∧ t.icnt = 1 ∧ t.st.pad = 0)
      ∧ (s.gtot ≠ 0 → p.toNat ≤ 2 → coreStep s = .next { s with
          icnt := 1
          st := { s.st with pad := p.extractLsb' 0 2, phase := .decRead }
          env := { s.env with answers := rest, trace := .request (.inRead 1) :: s.env.trace } }))

/-- DEC_READ reads three bytes and decrypts the group in the same step; DEC_WRITE writes byte BIDX of BUF, WLIM of them in all, and the
last byte of the last group ends the command (43_stream_codec.md section 4, R166 and R167). The input stream holds exactly LEN bytes
(70_reset_and_hazards.md R236). That an error leaves the output untrusted is 43_stream_codec.md section 5 (R171) in the form of log
entry 7. -/
def Obligations.DecodeGroupSteps : Prop :=
  (∀ (s : State) (rest : List Answer), s.st.phase = .decRead →
    (s.env.answers = .error :: rest → ∃ t, coreStep s = .next t ∧ t.st.err = .ioRead ∧ t.st.busy = false
      ∧ t.icnt = s.icnt ∧ t.buf = s.buf)
    ∧ (s.env.answers = .ok :: rest → s.icnt.toNat + 3 ≤ s.len.toNat → s.env.input.length = s.len.toNat →
      coreStep s = .next { s with
        icnt := s.icnt + 3
        buf := decryptGroup s.cfg (s.rk.toList.take s.st.rkn.toNat) (unpack ((s.env.input.drop s.icnt.toNat).take 3))
        wlim := if s.gcnt = s.gtot - 1 then 3 - s.st.pad else 3
        st := { s.st with phase := .decWrite, bidx := 0 }
        env := { s.env with answers := rest, trace := .request (.inRead 3) :: s.env.trace } }))
  ∧ (∀ (s : State) (rest : List Answer), s.st.phase = .decWrite →
    (s.env.answers = .error :: rest → ∃ t, coreStep s = .next t ∧ t.st.err = .ioWrite ∧ t.st.busy = false ∧ t.ocnt = s.ocnt
      ∧ t.env.outputTrusted = false)
    ∧ (s.env.answers = .ok :: rest → s.st.bidx + 1 = s.wlim → s.gcnt + 1 = s.gtot → ∃ t, coreStep s = .next t
      ∧ t.st.err = .noError ∧ t.st.done = true ∧ t.st.busy = false ∧ t.gcnt = s.gcnt + 1 ∧ t.ocnt = s.ocnt + 1
      ∧ t.env.output = s.env.output ++ [s.buf.extractLsb' (8 * s.st.bidx.toNat) 8])
    ∧ (s.env.answers = .ok :: rest → (s.st.bidx + 1 = s.wlim → s.gcnt + 1 ≠ s.gtot) → coreStep s = .next { s with
        ocnt := s.ocnt + 1
        gcnt := if s.st.bidx + 1 = s.wlim then s.gcnt + 1 else s.gcnt
        st := { s.st with
          phase := if s.st.bidx + 1 = s.wlim then .decRead else .decWrite
          bidx := if s.st.bidx + 1 = s.wlim then 0 else s.st.bidx + 1 }
        env := { s.env with
          output := s.env.output ++ [s.buf.extractLsb' (8 * s.st.bidx.toNat) 8], answers := rest
          trace := .request (.outWrite (s.buf.extractLsb' (8 * s.st.bidx.toNat) 8)) :: s.env.trace } }))

/-- 43_stream_codec.md R152, whole: on every exit path of a stream command the ports are closed, the schedule is freed, the sequencer is
idle and the command is done, while BUF, the counters (but for the last step's own progress) and every operand register keep their
values. An exit is a step, not a reset, from BUSY = 1 to BUSY = 0, or a start step that leaves BUSY = 0; `streamFinish` is what both run.
The exit step makes its phase's one request, takes one answer, and then only closes the open ports; ERR is the code of that phase and
answer. -/
def Obligations.StreamExitClosesAndFrees : Prop :=
  (∀ s t : State, step s = .next t → s.st.busy = true → t.st.busy = false → (∀ rest, s.env.actions ≠ .reset :: rest) →
    t.st.inOpen = false ∧ t.st.outOpen = false ∧ t.rk = zeroRk ∧ t.st.rkv = false ∧ t.st.rkn = 0 ∧ t.st.phase = .idle
    ∧ t.st.bidx = 0 ∧ t.st.done = true ∧ t.buf = s.buf
    ∧ (t.icnt = s.icnt ∨ (s.st.phase = .decHdr ∧ t.icnt = 1))
    ∧ (t.gcnt = s.gcnt ∧ t.ocnt = s.ocnt ∨ (s.st.phase = .decWrite ∧ t.gcnt = s.gcnt + 1 ∧ t.ocnt = s.ocnt + 1))
    ∧ t.gtot = s.gtot ∧ (t.st.pad = s.st.pad ∨ s.st.phase = .decHdr)
    ∧ (∃ r a rest, s.env.answers = a :: rest ∧ t.env.answers = rest
      ∧ t.env.trace = (if s.st.outOpen then [.request .outClose] else [])
          ++ (if s.st.inOpen then [.request .inClose] else []) ++ .request r :: s.env.trace
      ∧ ((s.st.phase = .encHdr ∧ r = .outWrite (s.st.pad.setWidth 8) ∧ a = .error ∧ t.st.err = .ioWrite)
        ∨ (s.st.phase = .encRead ∧ r = .inRead 3 ∧
            (a = .error ∧ t.st.err = .ioRead ∨ a = .ok ∧ s.len.toNat ≤ s.icnt.toNat ∧ t.st.err = .noError))
        ∨ (s.st.phase = .encWrite ∧ r = .outWrite (s.buf.extractLsb' (8 * s.st.bidx.toNat) 8) ∧ a = .error
            ∧ t.st.err = .ioWrite)
        ∨ (s.st.phase = .decHdr ∧ r = .inRead 1 ∧
            (a = .error ∧ t.st.err = .ioRead
            ∨ a = .ok ∧ ∃ p, s.env.input[s.icnt.toNat]? = some p ∧
              (s.gtot = 0 ∧ p = 0 ∧ t.st.err = .noError ∨ (2 < p.toNat ∨ s.gtot = 0 ∧ p ≠ 0) ∧ t.st.err = .format)))
        ∨ (s.st.phase = .decRead ∧ r = .inRead 3 ∧ a = .error ∧ t.st.err = .ioRead)
        ∨ (s.st.phase = .decWrite ∧ r = .outWrite (s.buf.extractLsb' (8 * s.st.bidx.toNat) 8) ∧
            (a = .error ∧ t.st.err = .ioWrite
            ∨ a = .ok ∧ s.st.bidx + 1 = s.wlim ∧ s.gcnt + 1 = s.gtot ∧ t.st.err = .noError))))
    ∧ t.key = s.key ∧ t.nr = s.nr ∧ t.din = s.din ∧ t.sk = s.sk ∧ t.dout = s.dout ∧ t.len = s.len)
  ∧ (∀ (i : Instr) (s t : State), i = .encode ∨ i = .decode → exec i s = .next t → t.st.busy = false →
      t.env.actions = s.env.actions →
    t.st.inOpen = false ∧ t.st.outOpen = false ∧ t.rk = zeroRk ∧ t.st.rkv = false ∧ t.st.rkn = 0 ∧ t.st.phase = .idle
    ∧ t.st.bidx = 0 ∧ t.st.done = true ∧ (t.st.err = .config ∨ t.st.err = .ioOpen ∨ t.st.err = .format) ∧ t.buf = s.buf)
  ∧ (∀ (e : ErrCode) (s : State), streamFinish e s = { s with
      rk := zeroRk
      st := { s.st with
        inOpen := false, outOpen := false, rkv := false, rkn := 0, phase := .idle, busy := false, bidx := 0
        done := true, err := e }
      env := { s.env with
        trace := (if s.st.outOpen then [.request .outClose] else [])
          ++ (if s.st.inOpen then [.request .inClose] else []) ++ s.env.trace } })

/-- 43_stream_codec.md R172 and R201's end at once: an error answer ends the stream command in the very step that gets it, with no
further request but the closes, whatever the phase, and in a start step at InOpen and at OutOpen alike. That the output may then not be
relied on is R171 in the form of log entry 7. -/
def Obligations.ErrorAnswerEndsCommand : Prop :=
  (∀ (s : State) (rest : List Answer), s.st.phase ≠ .idle → s.env.answers = .error :: rest → ∃ t, coreStep s = .next t
    ∧ t.st.busy = false ∧ t.st.phase = .idle ∧ (t.st.err = .ioRead ∨ t.st.err = .ioWrite) ∧ t.env.answers = rest
    ∧ t.env.outputTrusted = false
    ∧ ∃ r, t.env.trace = (if s.st.outOpen then [.request .outClose] else [])
        ++ (if s.st.inOpen then [.request .inClose] else []) ++ .request r :: s.env.trace)
  ∧ (∀ (s : State) (i : Instr) (rest : List Answer), i = .encode ∨ i = .decode → 1 ≤ s.nr.toNat → s.nr.toNat ≤ 9 →
      (s.env.answers = .error :: rest → ∃ t, exec i s = .next t
        ∧ t.st.busy = false ∧ t.st.phase = .idle ∧ t.st.err = .ioOpen ∧ t.env.answers = rest ∧ t.env.outputTrusted = false
        ∧ t.env.trace = (if s.st.outOpen then [.request .outClose] else [])
            ++ (if s.st.inOpen then [.request .inClose] else []) ++ .request .inOpen :: s.env.trace)
      ∧ (s.env.answers = .ok :: .error :: rest → (i = .decode → s.len.toNat % 3 = 1) → ∃ t, exec i s = .next t
        ∧ t.st.busy = false ∧ t.st.phase = .idle ∧ t.st.err = .ioOpen ∧ t.env.answers = rest ∧ t.env.outputTrusted = false
        ∧ t.env.trace = (if s.st.outOpen then [.request .outClose] else [])
            ++ .request .inClose :: .request .outOpen :: .request .inOpen :: s.env.trace))

/-- A request the host leaves unanswered holds the CORE where it stands (70_reset_and_hazards.md section 2): the step changes nothing,
and a start step whose InOpen, or whose OutOpen after an answered InOpen, goes unanswered does not happen (log entry 4). -/
def Obligations.UnansweredRequestHoldsCore : Prop :=
  (∀ s : State, s.env.answers = [] → coreStep s = .next s)
  ∧ (∀ (s : State) (i : Instr) (rest : List HostAction), i = .encode ∨ i = .decode → s.st.busy = false →
      1 ≤ s.nr.toNat → s.nr.toNat ≤ 9 →
      s.env.answers = [] ∨ (s.env.answers = [.ok] ∧ (i = .decode → s.len.toNat % 3 = 1)) →
      s.env.actions = .write 0 (encode i) :: rest → step s = .next s)

/-- The two things the model refuses, and when (log entry 8; 93_implementation_defined.md section 1): bytes of an input stream
whose length differs from LEN, in whichever phase they are read, and an input stream changed while a command runs. -/
def Obligations.HostMisdeedsAreRefused : Prop :=
  (∀ (s : State) (rest : List Answer), s.env.answers = .ok :: rest →
    s.st.phase = .encRead ∨ s.st.phase = .decHdr ∨ s.st.phase = .decRead → s.env.input.length ≠ s.len.toNat →
      coreStep s = .refused .inputStreamLength)
  ∧ (∀ (s : State) (bs : List Byte) (rest : List HostAction), s.st.busy = true →
      step (s.awaiting (.supplyInput bs :: rest)) = .refused .inputStreamChanged)

/-- The open parameters never change (41_feistel.md section 1: "not derived, not configurable"). The input stream is the host's: no step
changes it but the host's own supply. The output stream, while it may be relied on, only grows at its end, one byte a step, but where a
start step opens a new one (20_memory.md section 1; nothing is said of it after an error, 43_stream_codec.md section 5, log entry 7). -/
def Obligations.StreamsAndParametersFrame : Prop :=
  ∀ s t : State, step s = .next t →
    t.cfg = s.cfg ∧
    (t.env.input = s.env.input ∨ ∃ bs rest, s.env.actions = .supplyInput bs :: rest ∧ t.env.input = bs)
    ∧ (t.env.outputTrusted = true →
        t.env.output = s.env.output ∨ (∃ b, t.env.output = s.env.output ++ [b])
          ∨ (t.env.output = [] ∧ s.st.busy = false ∧ t.st.busy = true))

/-! ## Laws of the stream codec (43_stream_codec.md section 5, 70_reset_and_hazards.md section 4) -/

/-- Encode output (43_stream_codec.md section 5): an ENCODE that ends with ERR = NONE, under any answers of the host, has written exactly the
padding count and the encrypted groups; its length, the counters and the number of reads. The output is whole because it starts empty at
OutOpen (log entry 6, DEDUCED from 20_memory.md section 5, R65), and trusted by log entry 7. The host only waits here; what it does
while a command runs changes OVR and its own side alone (`Obligations.BusyWritesAreDropped`). -/
def Obligations.EncodeOutput : Prop :=
  ∀ (s t : State) (ks : List Byte) (k : Nat), Idle s → schedule s.cfg s.key s.nr = some ks →
    s.env.input.length = s.len.toNat → RunsTo k (s.issuing .encode) t → Ended t → t.st.err = .noError →
      t.env.output = encodedStream s.cfg ks s.env.input
      ∧ t.env.output.length = 1 + 3 * ((s.len.toNat + 2) / 3)
      ∧ t.env.output.length = 1 + s.len.toNat + padcount s.len.toNat
      ∧ t.env.output.length % 3 = 1
      ∧ t.icnt = s.len ∧ t.gcnt.toNat = (s.len.toNat + 2) / 3 ∧ t.ocnt = BitVec.ofNat 32 t.env.output.length
      ∧ countRequests (.inRead 3) t.env.trace = countRequests (.inRead 3) s.env.trace + (s.len.toNat + 2) / 3 + 1
      ∧ t.env.outputTrusted = true

/-- Decode output (43_stream_codec.md section 4): a DECODE that ends with ERR = NONE, under any answers of the host, has written the decrypted
groups less the padding bytes at the end, whatever those bytes are. The output is whole because it starts empty at OutOpen (log entry 6,
DEDUCED from 20_memory.md section 5, R65), and trusted by log entry 7. -/
def Obligations.DecodeOutput : Prop :=
  ∀ (s t : State) (ks : List Byte) (k : Nat), Idle s → schedule s.cfg s.key s.nr = some ks →
    s.env.input.length = s.len.toNat → RunsTo k (s.issuing .decode) t → Ended t → t.st.err = .noError →
      t.env.output = decodedStream s.cfg ks s.env.input
      ∧ s.len.toNat % 3 = 1 ∧ t.icnt = s.len ∧ t.gcnt.toNat = (s.len.toNat - 1) / 3 ∧ t.gtot = t.gcnt
      ∧ t.env.outputTrusted = true

/-- Round trip (43_stream_codec.md section 5): a DECODE of an ENCODE's output with the same KEY and NR gives the plaintext back, and it
never ends in FORMAT. For every plaintext whose encoding LEN can hold, every S-box and window, and every answer of the host.
Both outputs are whole because an output starts empty at OutOpen (log entry 6, DEDUCED from 20_memory.md section 5, R65). -/
def Obligations.StreamRoundTrip : Prop :=
  ∀ (s t v : State) (answers : List Answer) (j k : Nat), Idle s → s.env.input.length = s.len.toNat →
    RunsTo j (s.issuing .encode) t → Ended t → t.st.err = .noError → t.env.output.length < 2 ^ 32 →
    RunsTo k ({ t with
        len := BitVec.ofNat 32 t.env.output.length
        env := { t.env with input := t.env.output, answers := answers } }.issuing .decode) v → Ended v →
      v.st.err ≠ .format ∧ (v.st.err = .noError → v.env.output = s.env.input)

/-- ENCODE of L bytes with every answer Ok takes exactly 3 + 4*ceil(L/3) CORE steps and is busy at every one before the last
(70_reset_and_hazards.md section 4). A model step here is the CMD write, then CORE steps. -/
def Obligations.EncodeStepCount : Prop :=
  ∀ s : State, Idle s → 1 ≤ s.nr.toNat → s.nr.toNat ≤ 9 → s.env.input.length = s.len.toNat →
    (∀ a ∈ s.env.answers, a = Answer.ok) → 4 + 4 * ((s.len.toNat + 2) / 3) ≤ s.env.answers.length →
      (∃ t, RunsTo (3 + 4 * ((s.len.toNat + 2) / 3)) (s.issuing .encode) t ∧ Ended t ∧ t.st.err = .noError ∧ t.st.done = true)
      ∧ ∀ k, 1 ≤ k → k < 3 + 4 * ((s.len.toNat + 2) / 3) → ∃ t, RunsTo k (s.issuing .encode) t ∧ t.st.busy = true

/-- DECODE of 1 + 3G bytes with padding byte p and every answer Ok takes exactly 2 CORE steps when G = 0 and 2 + 4*G - p when G >= 1
(70_reset_and_hazards.md section 4). -/
def Obligations.DecodeStepCount : Prop :=
  ∀ (s : State) (p : Byte) (body : List Byte) (G : Nat), Idle s → 1 ≤ s.nr.toNat → s.nr.toNat ≤ 9 →
    s.env.input = p :: body → s.env.input.length = s.len.toNat → body.length = 3 * G → p.toNat ≤ 2 → (G = 0 → p = 0) →
    (∀ a ∈ s.env.answers, a = Answer.ok) → 3 + 4 * G ≤ s.env.answers.length →
      (∃ t, RunsTo (2 + 4 * G - p.toNat) (s.issuing .decode) t ∧ Ended t ∧ t.st.err = .noError ∧ t.st.done = true)
      ∧ ∀ k, 1 ≤ k → k < 2 + 4 * G - p.toNat → ∃ t, RunsTo k (s.issuing .decode) t ∧ t.st.busy = true

/-! ## Control, errors, reset (44_control.md, 60_exceptions.md, 70_reset_and_hazards.md) -/

/-- 44_control.md R190, whole: NOP changes ERR and DONE only; other words with OP = 0 are ILLEGAL; while busy it is dropped. -/
def Obligations.NopResult : Prop :=
  decode 0x00000000 = .ok .nop
  ∧ (∀ s : State, exec .nop s = .next { s with st := { s.st with err := .noError, done := true } })
  ∧ (∀ w : Word, w.extractLsb' 0 4 = 0 → w ≠ 0 → ∃ e, decode w = .error e)
  ∧ (∀ (s : State) (rest : List HostAction), s.st.busy = true →
      step (s.awaiting (.write 0 0x00000000 :: rest)) = .next { s.awaiting rest with st := { s.st with ovr := true } })

/-- 44_control.md R191, whole: CLR clears ERR, OVR and DONE and nothing else; while busy it is dropped and sets OVR. The examples are on
STATUS as the host reads it. Nothing but it and reset clears OVR. -/
def Obligations.ClrResult : Prop :=
  decode 0x0000000E = .ok .clr
  ∧ (∀ s : State, exec .clr s = .next { s with st := { s.st with err := .noError, ovr := false, done := false } })
  ∧ (∀ (s : State) (rest : List HostAction), s.st.busy = true →
      step (s.awaiting (.write 0 0x0000000E :: rest)) = .next { s.awaiting rest with st := { s.st with ovr := true } })
  ∧ (∀ s t : State, exec .clr s = .next t →
      (statusWord s.st = 0x0000001A → statusWord t.st = 0x00000000)
      ∧ (statusWord s.st = 0x0000020E → statusWord t.st = 0x00000204))
  ∧ (∀ s t : State, step s = .next t → s.st.ovr = true → t.st.ovr = false →
      (∃ rest, s.env.actions = .reset :: rest) ∨ ∃ rest, s.env.actions = .write 0 0x0000000E :: rest)

/-- A command's acceptance and completion (60_exceptions.md section 2): every command but ENCODE and DECODE finishes in the step that
accepts it without touching BUSY, and every command but CLR that finishes leaves DONE = 1. -/
def Obligations.CommandsFinishInOneStep : Prop :=
  ∀ (i : Instr) (s t : State), i.isStream = false → exec i s = .next t →
    t.st.busy = s.st.busy ∧ t.st.phase = s.st.phase ∧ t.env = s.env ∧ t.st.done = decide (i ≠ .clr)
    ∧ (t.st.ovr = s.st.ovr ∨ i = .clr)

/-- An error of a command other than KEYGEN, ENCODE and DECODE leaves everything but ERR and DONE unchanged, and the only such error is
NOKEYS (60_exceptions.md section 2). -/
def Obligations.PrimitiveErrorsArePrecise : Prop :=
  ∀ (i : Instr) (s t : State), i.isStream = false → i ≠ .keygen → exec i s = .next t → t.st.err ≠ .noError →
    t = { s with st := { s.st with err := .noKeys, done := true } }

/-- 10_state.md section 3: DOUT is written only by a primitive command that completes without error, and holds its result zero-extended
(never more than 24 bits); KEYGEN, ENCODE, DECODE, NOP and CLR never write it; it is read-only to the host; it resets to 0. -/
def Obligations.DoutWrittenOnlyOnSuccess : Prop :=
  (∀ (i : Instr) (s t : State), exec i s = .next t →
    (t.st.err ≠ .noError → t.dout = s.dout)
    ∧ (i = .keygen ∨ i = .encode ∨ i = .decode ∨ i = .nop ∨ i = .clr → t.dout = s.dout)
    ∧ (i ≠ .keygen → i ≠ .encode → i ≠ .decode → i ≠ .nop → i ≠ .clr → t.st.err = .noError → t.dout.extractLsb' 24 8 = 0))
  ∧ (∀ (s : State) (rest : List HostAction) (v : Word), step (s.awaiting (.write 6 v :: rest)) = .next (s.awaiting rest))
  ∧ State.reset.dout = 0

/-- No command writes KEY, NR, DIN, SK or LEN, and no CORE step does (10_state.md section 3). -/
def Obligations.OperandsWrittenByHostOnly : Prop :=
  (∀ (i : Instr) (s t : State), exec i s = .next t →
    t.key = s.key ∧ t.nr = s.nr ∧ t.din = s.din ∧ t.sk = s.sk ∧ t.len = s.len)
  ∧ (∀ s t : State, coreStep s = .next t →
    t.key = s.key ∧ t.nr = s.nr ∧ t.din = s.din ∧ t.sk = s.sk ∧ t.len = s.len ∧ t.dout = s.dout)

/-- 10_state.md R36, whole: what invalidates the round-key file. -/
def Obligations.ScheduleInvalidation : Prop :=
  (∀ (s t : State) (rest : List HostAction) (v : Word), s.st.busy = false →
    step (s.awaiting (.write 2 v :: rest)) = .next t ∨ step (s.awaiting (.write 3 v :: rest)) = .next t →
      t.st.rkv = false ∧ t.st.rkn = 0 ∧ ∀ i : Fin 9, t.rk[i] = 0)
  ∧ (∀ s : State, s.nr.toNat = 0 ∨ 9 < s.nr.toNat → ∃ t, exec .keygen s = .next t
      ∧ t.st.rkv = false ∧ t.st.rkn = 0 ∧ ∀ i : Fin 9, t.rk[i] = 0)
  ∧ (∀ s t : State, step s = .next t → s.st.busy = true → t.st.busy = false →
      t.st.rkv = false ∧ t.st.rkn = 0 ∧ ∀ i : Fin 9, t.rk[i] = 0)
  ∧ (∀ (i : Instr) (s t : State), i = .encode ∨ i = .decode → exec i s = .next t → t.st.busy = false →
      t.env.actions = s.env.actions → t.st.rkv = false ∧ t.st.rkn = 0 ∧ ∀ i : Fin 9, t.rk[i] = 0)

/-- The round keys are written by KEYGEN, ENCODE and DECODE only: every other command leaves RK, RKV and RKN alone, and within a stream
command only its end changes them (10_state.md section 5). -/
def Obligations.RoundKeysImmutableAfterCreation : Prop :=
  (∀ (i : Instr) (s t : State), i ≠ .keygen → i.isStream = false → exec i s = .next t →
    t.rk = s.rk ∧ t.st.rkv = s.st.rkv ∧ t.st.rkn = s.st.rkn)
  ∧ (∀ s t : State, coreStep s = .next t → t.st.busy = true → t.rk = s.rk ∧ t.st.rkv = s.st.rkv ∧ t.st.rkn = s.st.rkn)

/-- The reset action of 10_state.md section 8 (R45) and 70_reset_and_hazards.md section 1 (R230, R233): reset closes the open ports, puts
every register, field and internal value at its reset value, and leaves the streams' bytes. The model's choices in it: that the
parameters (`cfg`) and the host's answers and actions to come stay is log entry 12; that the bytes of a command in progress are untrusted
has the form of the flag `outputTrusted`, log entry 7. -/
def Obligations.ResetAction : Prop :=
  ∀ (s : State) (rest : List HostAction), ∃ t, step (s.awaiting (.reset :: rest)) = .next t
    ∧ t.key = 0 ∧ t.nr = 0 ∧ t.din = 0 ∧ t.sk = 0 ∧ t.dout = 0 ∧ t.len = 0 ∧ t.buf = 0 ∧ t.icnt = 0 ∧ t.ocnt = 0
    ∧ t.gcnt = 0 ∧ t.gtot = 0 ∧ (∀ i : Fin 9, t.rk[i] = 0) ∧ t.wlim = 3
    ∧ statusWord t.st = 0
    ∧ t.st = { busy := false, done := false, rkv := false, ovr := false, err := .noError, rkn := 0, phase := .idle,
               pad := 0, bidx := 0, inOpen := false, outOpen := false }
    ∧ t.env.trace = (if s.st.outOpen then [.request .outClose] else [])
        ++ (if s.st.inOpen then [.request .inClose] else []) ++ s.env.trace
    ∧ t.env.input = s.env.input ∧ t.env.output = s.env.output ∧ t.env.actions = rest ∧ t.env.answers = s.env.answers
    ∧ t.cfg = s.cfg ∧ (s.st.busy = true → t.env.outputTrusted = false)
    ∧ ∃ u, exec .keygen t = .next u ∧ u.st.err = .config

/-- The state after reset (70_reset_and_hazards.md section 1): idle, no schedule, so KEYGEN, ENCODE and DECODE raise CONFIG and every block
command raises NOKEYS; and a second reset changes nothing. -/
def Obligations.AfterReset : Prop :=
  (∀ i : Instr, i = .keygen ∨ i = .encode ∨ i = .decode → ∃ t, exec i State.reset = .next t ∧ t.st.err = .config)
  ∧ (∀ (i : Instr) (j : BitVec 4), i = .encblk ∨ i = .decblk ∨ i = .encgrp ∨ i = .decgrp ∨ i = .feistelk j ∨ i = .roundk j →
      ∃ t, exec i State.reset = .next t ∧ t.st.err = .noKeys ∧ t.dout = 0)
  ∧ (∀ s : State, hostReset (hostReset s) = hostReset s)
  ∧ State.reset.st.busy = false ∧ State.reset.st.phase = .idle ∧ State.reset.st.rkv = false

/-! ## Invariants -/

/-- Every step keeps the STATUS invariants of 10_state.md section 2. -/
def Obligations.StatusInvariantKept : Prop :=
  ∀ s t : State, StatusInv s → step s = .next t → StatusInv t

/-- Every step keeps the round-key file the schedule of the current KEY and NR, or clear (10_state.md section 5). -/
def Obligations.ScheduleInvariantKept : Prop :=
  ∀ s t : State, ScheduleInv s → step s = .next t → ScheduleInv t

/-- Every step keeps the stream invariant: legal field values, the position of the sequencer in both streams, open ports and a loaded
schedule while a command runs (10_state.md sections 2, 4 and 6, 43_stream_codec.md sections 3 and 4). -/
def Obligations.StreamInvariantKept : Prop :=
  ∀ s t : State, StreamInv s → step s = .next t → StreamInv t

/-- The invariants hold at reset. -/
def Obligations.InvariantsHoldAtReset : Prop :=
  StatusInv State.reset ∧ ScheduleInv State.reset ∧ StreamInv State.reset ∧ Idle State.reset

/-- Safety: from a state that meets the stream invariant, a host that keeps its duties (70_reset_and_hazards.md section 2) is never
refused (what is refused is log entry 8). That no step of any state ends in a fault is the model's reading (log entry 16, DEDUCED: an
error is no trap), and holds because Fault has no constructor. -/
def Obligations.DutifulHostIsNeverRefused : Prop :=
  (∀ s : State, StreamInv s → HostKeepsDuties s → ∃ t, step s = .next t)
  ∧ (∀ (s : State) (f : Fault), step s ≠ .fault f)

/-! ## Byte layout of a group -/

/-- 43_stream_codec.md R153, whole: `unpack` puts byte j of at most three bytes in bits [8j+7 : 8j], and the missing bytes are 0. -/
def Obligations.UnpackZeroPadsGroup : Prop :=
  (∀ bs : List Byte, bs.length ≤ 3 → ∀ j : Fin 3, (unpack bs).extractLsb' (8 * j.val) 8 = bs.getD j.val 0)
  ∧ unpack [] = 0
  ∧ (∀ a b c : Byte, unpack [a] = a.setWidth 24
      ∧ unpack [a, b] = a.setWidth 24 ||| b.setWidth 24 <<< 8
      ∧ unpack [a, b, c] = a.setWidth 24 ||| b.setWidth 24 <<< 8 ||| c.setWidth 24 <<< 16)
end

