-- ==== Sys2Proof/Laws/Cipher.lean ====
section
/-! SUPPORT. Small laws of halves, blocks and groups, and of the register names and addresses. -/

namespace Sys2Proof.Machine

@[simp] theorem leftHalf_append (a b : Half) : leftHalf (a ++ b : BitVec (6 + 6)) = a := by
  unfold leftHalf
  ext i hi
  simp only [BitVec.getElem_extractLsb', BitVec.getLsbD_append, show ¬(6 + i < 6) by omega, if_false,
    show 6 + i - 6 = i by omega, BitVec.getLsbD_eq_getElem hi]

@[simp] theorem rightHalf_append (a b : Half) : rightHalf (a ++ b : BitVec (6 + 6)) = b := by
  unfold rightHalf
  ext i hi
  simp only [BitVec.getElem_extractLsb', BitVec.getLsbD_append, Nat.zero_add, hi, if_true, BitVec.getLsbD_eq_getElem hi]

/-- A register's index names it again (10_state.md R20). -/
theorem reg_ofIndex_index (r : Reg) : Reg.ofIndex r.index = some r := by
  cases r with
  | rk i => revert i; decide
  | _ => rfl

/-- Each register has its own address (20_memory.md R50, R63). -/
theorem indexOfAddress_addressOf (i : Fin 64) : indexOfAddress (addressOf i) = some i := by
  have h : Config.coreBase ≤ addressOf i ∧ (addressOf i - Config.coreBase) % 4 = 0 ∧ (addressOf i - Config.coreBase) / 4 < 64 := by
    unfold addressOf; omega
  simp only [indexOfAddress, dif_pos h, Option.some.injEq]
  apply Fin.ext
  simp only [addressOf]
  omega

end Sys2Proof.Machine
end

