-- ==== Sys2Proof/Laws/State.lean ====
section
/-! SUPPORT. One lemma per field per update of State, each true by unfolding, so that no later proof unfolds a record update. -/

namespace Sys2Proof.Machine

/-! ### accept -/

@[simp] theorem accept_cfg (s : State) : (accept s).cfg = s.cfg := rfl
@[simp] theorem accept_st (s : State) : (accept s).st = { s.st with err := .noError, done := false } := rfl
@[simp] theorem accept_key (s : State) : (accept s).key = s.key := rfl
@[simp] theorem accept_nr (s : State) : (accept s).nr = s.nr := rfl
@[simp] theorem accept_din (s : State) : (accept s).din = s.din := rfl
@[simp] theorem accept_sk (s : State) : (accept s).sk = s.sk := rfl
@[simp] theorem accept_dout (s : State) : (accept s).dout = s.dout := rfl
@[simp] theorem accept_len (s : State) : (accept s).len = s.len := rfl
@[simp] theorem accept_buf (s : State) : (accept s).buf = s.buf := rfl
@[simp] theorem accept_icnt (s : State) : (accept s).icnt = s.icnt := rfl
@[simp] theorem accept_ocnt (s : State) : (accept s).ocnt = s.ocnt := rfl
@[simp] theorem accept_gcnt (s : State) : (accept s).gcnt = s.gcnt := rfl
@[simp] theorem accept_gtot (s : State) : (accept s).gtot = s.gtot := rfl
@[simp] theorem accept_rk (s : State) : (accept s).rk = s.rk := rfl
@[simp] theorem accept_wlim (s : State) : (accept s).wlim = s.wlim := rfl
@[simp] theorem accept_env (s : State) : (accept s).env = s.env := rfl

/-! ### finish -/

@[simp] theorem finish_cfg (e : ErrCode) (s : State) : (finish e s).cfg = s.cfg := rfl
@[simp] theorem finish_st (e : ErrCode) (s : State) : (finish e s).st = { s.st with err := e, done := true } := rfl
@[simp] theorem finish_key (e : ErrCode) (s : State) : (finish e s).key = s.key := rfl
@[simp] theorem finish_nr (e : ErrCode) (s : State) : (finish e s).nr = s.nr := rfl
@[simp] theorem finish_din (e : ErrCode) (s : State) : (finish e s).din = s.din := rfl
@[simp] theorem finish_sk (e : ErrCode) (s : State) : (finish e s).sk = s.sk := rfl
@[simp] theorem finish_dout (e : ErrCode) (s : State) : (finish e s).dout = s.dout := rfl
@[simp] theorem finish_len (e : ErrCode) (s : State) : (finish e s).len = s.len := rfl
@[simp] theorem finish_buf (e : ErrCode) (s : State) : (finish e s).buf = s.buf := rfl
@[simp] theorem finish_icnt (e : ErrCode) (s : State) : (finish e s).icnt = s.icnt := rfl
@[simp] theorem finish_ocnt (e : ErrCode) (s : State) : (finish e s).ocnt = s.ocnt := rfl
@[simp] theorem finish_gcnt (e : ErrCode) (s : State) : (finish e s).gcnt = s.gcnt := rfl
@[simp] theorem finish_gtot (e : ErrCode) (s : State) : (finish e s).gtot = s.gtot := rfl
@[simp] theorem finish_rk (e : ErrCode) (s : State) : (finish e s).rk = s.rk := rfl
@[simp] theorem finish_wlim (e : ErrCode) (s : State) : (finish e s).wlim = s.wlim := rfl
@[simp] theorem finish_env (e : ErrCode) (s : State) : (finish e s).env = s.env := rfl

/-! ### finishResult -/

@[simp] theorem finishResult_cfg (v : Word) (s : State) : (finishResult v s).cfg = s.cfg := rfl
@[simp] theorem finishResult_st (v : Word) (s : State) : (finishResult v s).st = { s.st with err := .noError, done := true } := rfl
@[simp] theorem finishResult_key (v : Word) (s : State) : (finishResult v s).key = s.key := rfl
@[simp] theorem finishResult_nr (v : Word) (s : State) : (finishResult v s).nr = s.nr := rfl
@[simp] theorem finishResult_din (v : Word) (s : State) : (finishResult v s).din = s.din := rfl
@[simp] theorem finishResult_sk (v : Word) (s : State) : (finishResult v s).sk = s.sk := rfl
@[simp] theorem finishResult_dout (v : Word) (s : State) : (finishResult v s).dout = v := rfl
@[simp] theorem finishResult_len (v : Word) (s : State) : (finishResult v s).len = s.len := rfl
@[simp] theorem finishResult_buf (v : Word) (s : State) : (finishResult v s).buf = s.buf := rfl
@[simp] theorem finishResult_icnt (v : Word) (s : State) : (finishResult v s).icnt = s.icnt := rfl
@[simp] theorem finishResult_ocnt (v : Word) (s : State) : (finishResult v s).ocnt = s.ocnt := rfl
@[simp] theorem finishResult_gcnt (v : Word) (s : State) : (finishResult v s).gcnt = s.gcnt := rfl
@[simp] theorem finishResult_gtot (v : Word) (s : State) : (finishResult v s).gtot = s.gtot := rfl
@[simp] theorem finishResult_rk (v : Word) (s : State) : (finishResult v s).rk = s.rk := rfl
@[simp] theorem finishResult_wlim (v : Word) (s : State) : (finishResult v s).wlim = s.wlim := rfl
@[simp] theorem finishResult_env (v : Word) (s : State) : (finishResult v s).env = s.env := rfl

/-! ### clearSchedule -/

@[simp] theorem clearSchedule_cfg (s : State) : (clearSchedule s).cfg = s.cfg := rfl
@[simp] theorem clearSchedule_st (s : State) : (clearSchedule s).st = { s.st with rkv := false, rkn := 0 } := rfl
@[simp] theorem clearSchedule_key (s : State) : (clearSchedule s).key = s.key := rfl
@[simp] theorem clearSchedule_nr (s : State) : (clearSchedule s).nr = s.nr := rfl
@[simp] theorem clearSchedule_din (s : State) : (clearSchedule s).din = s.din := rfl
@[simp] theorem clearSchedule_sk (s : State) : (clearSchedule s).sk = s.sk := rfl
@[simp] theorem clearSchedule_dout (s : State) : (clearSchedule s).dout = s.dout := rfl
@[simp] theorem clearSchedule_len (s : State) : (clearSchedule s).len = s.len := rfl
@[simp] theorem clearSchedule_buf (s : State) : (clearSchedule s).buf = s.buf := rfl
@[simp] theorem clearSchedule_icnt (s : State) : (clearSchedule s).icnt = s.icnt := rfl
@[simp] theorem clearSchedule_ocnt (s : State) : (clearSchedule s).ocnt = s.ocnt := rfl
@[simp] theorem clearSchedule_gcnt (s : State) : (clearSchedule s).gcnt = s.gcnt := rfl
@[simp] theorem clearSchedule_gtot (s : State) : (clearSchedule s).gtot = s.gtot := rfl
@[simp] theorem clearSchedule_rk (s : State) : (clearSchedule s).rk = zeroRk := rfl
@[simp] theorem clearSchedule_wlim (s : State) : (clearSchedule s).wlim = s.wlim := rfl
@[simp] theorem clearSchedule_env (s : State) : (clearSchedule s).env = s.env := rfl

/-! ### loadSchedule -/

@[simp] theorem loadSchedule_cfg (r : List Byte) (n : Word) (s : State) : (loadSchedule r n s).cfg = s.cfg := rfl
@[simp] theorem loadSchedule_st (r : List Byte) (n : Word) (s : State) : (loadSchedule r n s).st = { s.st with rkv := true, rkn := n.extractLsb' 0 4 } := rfl
@[simp] theorem loadSchedule_key (r : List Byte) (n : Word) (s : State) : (loadSchedule r n s).key = s.key := rfl
@[simp] theorem loadSchedule_nr (r : List Byte) (n : Word) (s : State) : (loadSchedule r n s).nr = s.nr := rfl
@[simp] theorem loadSchedule_din (r : List Byte) (n : Word) (s : State) : (loadSchedule r n s).din = s.din := rfl
@[simp] theorem loadSchedule_sk (r : List Byte) (n : Word) (s : State) : (loadSchedule r n s).sk = s.sk := rfl
@[simp] theorem loadSchedule_dout (r : List Byte) (n : Word) (s : State) : (loadSchedule r n s).dout = s.dout := rfl
@[simp] theorem loadSchedule_len (r : List Byte) (n : Word) (s : State) : (loadSchedule r n s).len = s.len := rfl
@[simp] theorem loadSchedule_buf (r : List Byte) (n : Word) (s : State) : (loadSchedule r n s).buf = s.buf := rfl
@[simp] theorem loadSchedule_icnt (r : List Byte) (n : Word) (s : State) : (loadSchedule r n s).icnt = s.icnt := rfl
@[simp] theorem loadSchedule_ocnt (r : List Byte) (n : Word) (s : State) : (loadSchedule r n s).ocnt = s.ocnt := rfl
@[simp] theorem loadSchedule_gcnt (r : List Byte) (n : Word) (s : State) : (loadSchedule r n s).gcnt = s.gcnt := rfl
@[simp] theorem loadSchedule_gtot (r : List Byte) (n : Word) (s : State) : (loadSchedule r n s).gtot = s.gtot := rfl
@[simp] theorem loadSchedule_rk (r : List Byte) (n : Word) (s : State) : (loadSchedule r n s).rk = fillRk r := rfl
@[simp] theorem loadSchedule_wlim (r : List Byte) (n : Word) (s : State) : (loadSchedule r n s).wlim = s.wlim := rfl
@[simp] theorem loadSchedule_env (r : List Byte) (n : Word) (s : State) : (loadSchedule r n s).env = s.env := rfl

/-! ### tell -/

@[simp] theorem tell_cfg (r : Request) (s : State) : (tell r s).cfg = s.cfg := rfl
@[simp] theorem tell_st (r : Request) (s : State) : (tell r s).st = s.st := rfl
@[simp] theorem tell_key (r : Request) (s : State) : (tell r s).key = s.key := rfl
@[simp] theorem tell_nr (r : Request) (s : State) : (tell r s).nr = s.nr := rfl
@[simp] theorem tell_din (r : Request) (s : State) : (tell r s).din = s.din := rfl
@[simp] theorem tell_sk (r : Request) (s : State) : (tell r s).sk = s.sk := rfl
@[simp] theorem tell_dout (r : Request) (s : State) : (tell r s).dout = s.dout := rfl
@[simp] theorem tell_len (r : Request) (s : State) : (tell r s).len = s.len := rfl
@[simp] theorem tell_buf (r : Request) (s : State) : (tell r s).buf = s.buf := rfl
@[simp] theorem tell_icnt (r : Request) (s : State) : (tell r s).icnt = s.icnt := rfl
@[simp] theorem tell_ocnt (r : Request) (s : State) : (tell r s).ocnt = s.ocnt := rfl
@[simp] theorem tell_gcnt (r : Request) (s : State) : (tell r s).gcnt = s.gcnt := rfl
@[simp] theorem tell_gtot (r : Request) (s : State) : (tell r s).gtot = s.gtot := rfl
@[simp] theorem tell_rk (r : Request) (s : State) : (tell r s).rk = s.rk := rfl
@[simp] theorem tell_wlim (r : Request) (s : State) : (tell r s).wlim = s.wlim := rfl
@[simp] theorem tell_env (r : Request) (s : State) : (tell r s).env = { s.env with trace := .request r :: s.env.trace } := rfl

/-! ### distrustOutput -/

@[simp] theorem distrustOutput_cfg (s : State) : (distrustOutput s).cfg = s.cfg := rfl
@[simp] theorem distrustOutput_st (s : State) : (distrustOutput s).st = s.st := rfl
@[simp] theorem distrustOutput_key (s : State) : (distrustOutput s).key = s.key := rfl
@[simp] theorem distrustOutput_nr (s : State) : (distrustOutput s).nr = s.nr := rfl
@[simp] theorem distrustOutput_din (s : State) : (distrustOutput s).din = s.din := rfl
@[simp] theorem distrustOutput_sk (s : State) : (distrustOutput s).sk = s.sk := rfl
@[simp] theorem distrustOutput_dout (s : State) : (distrustOutput s).dout = s.dout := rfl
@[simp] theorem distrustOutput_len (s : State) : (distrustOutput s).len = s.len := rfl
@[simp] theorem distrustOutput_buf (s : State) : (distrustOutput s).buf = s.buf := rfl
@[simp] theorem distrustOutput_icnt (s : State) : (distrustOutput s).icnt = s.icnt := rfl
@[simp] theorem distrustOutput_ocnt (s : State) : (distrustOutput s).ocnt = s.ocnt := rfl
@[simp] theorem distrustOutput_gcnt (s : State) : (distrustOutput s).gcnt = s.gcnt := rfl
@[simp] theorem distrustOutput_gtot (s : State) : (distrustOutput s).gtot = s.gtot := rfl
@[simp] theorem distrustOutput_rk (s : State) : (distrustOutput s).rk = s.rk := rfl
@[simp] theorem distrustOutput_wlim (s : State) : (distrustOutput s).wlim = s.wlim := rfl
@[simp] theorem distrustOutput_env (s : State) : (distrustOutput s).env = { s.env with outputTrusted := false } := rfl

/-! ### goIdle -/

@[simp] theorem goIdle_cfg (s : State) : (goIdle s).cfg = s.cfg := rfl
@[simp] theorem goIdle_st (s : State) : (goIdle s).st = { s.st with phase := .idle, busy := false, bidx := 0 } := rfl
@[simp] theorem goIdle_key (s : State) : (goIdle s).key = s.key := rfl
@[simp] theorem goIdle_nr (s : State) : (goIdle s).nr = s.nr := rfl
@[simp] theorem goIdle_din (s : State) : (goIdle s).din = s.din := rfl
@[simp] theorem goIdle_sk (s : State) : (goIdle s).sk = s.sk := rfl
@[simp] theorem goIdle_dout (s : State) : (goIdle s).dout = s.dout := rfl
@[simp] theorem goIdle_len (s : State) : (goIdle s).len = s.len := rfl
@[simp] theorem goIdle_buf (s : State) : (goIdle s).buf = s.buf := rfl
@[simp] theorem goIdle_icnt (s : State) : (goIdle s).icnt = s.icnt := rfl
@[simp] theorem goIdle_ocnt (s : State) : (goIdle s).ocnt = s.ocnt := rfl
@[simp] theorem goIdle_gcnt (s : State) : (goIdle s).gcnt = s.gcnt := rfl
@[simp] theorem goIdle_gtot (s : State) : (goIdle s).gtot = s.gtot := rfl
@[simp] theorem goIdle_rk (s : State) : (goIdle s).rk = s.rk := rfl
@[simp] theorem goIdle_wlim (s : State) : (goIdle s).wlim = s.wlim := rfl
@[simp] theorem goIdle_env (s : State) : (goIdle s).env = s.env := rfl

/-! ### setInOpen -/

@[simp] theorem setInOpen_cfg (s : State) : (setInOpen s).cfg = s.cfg := rfl
@[simp] theorem setInOpen_st (s : State) : (setInOpen s).st = { s.st with inOpen := true } := rfl
@[simp] theorem setInOpen_key (s : State) : (setInOpen s).key = s.key := rfl
@[simp] theorem setInOpen_nr (s : State) : (setInOpen s).nr = s.nr := rfl
@[simp] theorem setInOpen_din (s : State) : (setInOpen s).din = s.din := rfl
@[simp] theorem setInOpen_sk (s : State) : (setInOpen s).sk = s.sk := rfl
@[simp] theorem setInOpen_dout (s : State) : (setInOpen s).dout = s.dout := rfl
@[simp] theorem setInOpen_len (s : State) : (setInOpen s).len = s.len := rfl
@[simp] theorem setInOpen_buf (s : State) : (setInOpen s).buf = s.buf := rfl
@[simp] theorem setInOpen_icnt (s : State) : (setInOpen s).icnt = s.icnt := rfl
@[simp] theorem setInOpen_ocnt (s : State) : (setInOpen s).ocnt = s.ocnt := rfl
@[simp] theorem setInOpen_gcnt (s : State) : (setInOpen s).gcnt = s.gcnt := rfl
@[simp] theorem setInOpen_gtot (s : State) : (setInOpen s).gtot = s.gtot := rfl
@[simp] theorem setInOpen_rk (s : State) : (setInOpen s).rk = s.rk := rfl
@[simp] theorem setInOpen_wlim (s : State) : (setInOpen s).wlim = s.wlim := rfl
@[simp] theorem setInOpen_env (s : State) : (setInOpen s).env = s.env := rfl

/-! ### setOutOpen -/

@[simp] theorem setOutOpen_cfg (s : State) : (setOutOpen s).cfg = s.cfg := rfl
@[simp] theorem setOutOpen_st (s : State) : (setOutOpen s).st = { s.st with outOpen := true } := rfl
@[simp] theorem setOutOpen_key (s : State) : (setOutOpen s).key = s.key := rfl
@[simp] theorem setOutOpen_nr (s : State) : (setOutOpen s).nr = s.nr := rfl
@[simp] theorem setOutOpen_din (s : State) : (setOutOpen s).din = s.din := rfl
@[simp] theorem setOutOpen_sk (s : State) : (setOutOpen s).sk = s.sk := rfl
@[simp] theorem setOutOpen_dout (s : State) : (setOutOpen s).dout = s.dout := rfl
@[simp] theorem setOutOpen_len (s : State) : (setOutOpen s).len = s.len := rfl
@[simp] theorem setOutOpen_buf (s : State) : (setOutOpen s).buf = s.buf := rfl
@[simp] theorem setOutOpen_icnt (s : State) : (setOutOpen s).icnt = s.icnt := rfl
@[simp] theorem setOutOpen_ocnt (s : State) : (setOutOpen s).ocnt = s.ocnt := rfl
@[simp] theorem setOutOpen_gcnt (s : State) : (setOutOpen s).gcnt = s.gcnt := rfl
@[simp] theorem setOutOpen_gtot (s : State) : (setOutOpen s).gtot = s.gtot := rfl
@[simp] theorem setOutOpen_rk (s : State) : (setOutOpen s).rk = s.rk := rfl
@[simp] theorem setOutOpen_wlim (s : State) : (setOutOpen s).wlim = s.wlim := rfl
@[simp] theorem setOutOpen_env (s : State) : (setOutOpen s).env = { s.env with output := [], outputTrusted := true } := rfl

/-! ### dropWrite -/

@[simp] theorem dropWrite_cfg (s : State) : (dropWrite s).cfg = s.cfg := rfl
@[simp] theorem dropWrite_st (s : State) : (dropWrite s).st = { s.st with ovr := true } := rfl
@[simp] theorem dropWrite_key (s : State) : (dropWrite s).key = s.key := rfl
@[simp] theorem dropWrite_nr (s : State) : (dropWrite s).nr = s.nr := rfl
@[simp] theorem dropWrite_din (s : State) : (dropWrite s).din = s.din := rfl
@[simp] theorem dropWrite_sk (s : State) : (dropWrite s).sk = s.sk := rfl
@[simp] theorem dropWrite_dout (s : State) : (dropWrite s).dout = s.dout := rfl
@[simp] theorem dropWrite_len (s : State) : (dropWrite s).len = s.len := rfl
@[simp] theorem dropWrite_buf (s : State) : (dropWrite s).buf = s.buf := rfl
@[simp] theorem dropWrite_icnt (s : State) : (dropWrite s).icnt = s.icnt := rfl
@[simp] theorem dropWrite_ocnt (s : State) : (dropWrite s).ocnt = s.ocnt := rfl
@[simp] theorem dropWrite_gcnt (s : State) : (dropWrite s).gcnt = s.gcnt := rfl
@[simp] theorem dropWrite_gtot (s : State) : (dropWrite s).gtot = s.gtot := rfl
@[simp] theorem dropWrite_rk (s : State) : (dropWrite s).rk = s.rk := rfl
@[simp] theorem dropWrite_wlim (s : State) : (dropWrite s).wlim = s.wlim := rfl
@[simp] theorem dropWrite_env (s : State) : (dropWrite s).env = s.env := rfl

/-! ### clearStream -/

@[simp] theorem clearStream_cfg (s : State) : (clearStream s).cfg = s.cfg := rfl
@[simp] theorem clearStream_st (s : State) : (clearStream s).st = { s.st with pad := 0, bidx := 0 } := rfl
@[simp] theorem clearStream_key (s : State) : (clearStream s).key = s.key := rfl
@[simp] theorem clearStream_nr (s : State) : (clearStream s).nr = s.nr := rfl
@[simp] theorem clearStream_din (s : State) : (clearStream s).din = s.din := rfl
@[simp] theorem clearStream_sk (s : State) : (clearStream s).sk = s.sk := rfl
@[simp] theorem clearStream_dout (s : State) : (clearStream s).dout = s.dout := rfl
@[simp] theorem clearStream_len (s : State) : (clearStream s).len = s.len := rfl
@[simp] theorem clearStream_buf (s : State) : (clearStream s).buf = s.buf := rfl
@[simp] theorem clearStream_icnt (s : State) : (clearStream s).icnt = 0 := rfl
@[simp] theorem clearStream_ocnt (s : State) : (clearStream s).ocnt = 0 := rfl
@[simp] theorem clearStream_gcnt (s : State) : (clearStream s).gcnt = 0 := rfl
@[simp] theorem clearStream_gtot (s : State) : (clearStream s).gtot = 0 := rfl
@[simp] theorem clearStream_rk (s : State) : (clearStream s).rk = s.rk := rfl
@[simp] theorem clearStream_wlim (s : State) : (clearStream s).wlim = 3 := rfl
@[simp] theorem clearStream_env (s : State) : (clearStream s).env = s.env := rfl

/-! ### goBusy -/

@[simp] theorem goBusy_cfg (p : Phase) (s : State) : (goBusy p s).cfg = s.cfg := rfl
@[simp] theorem goBusy_st (p : Phase) (s : State) : (goBusy p s).st = { s.st with busy := true, phase := p } := rfl
@[simp] theorem goBusy_key (p : Phase) (s : State) : (goBusy p s).key = s.key := rfl
@[simp] theorem goBusy_nr (p : Phase) (s : State) : (goBusy p s).nr = s.nr := rfl
@[simp] theorem goBusy_din (p : Phase) (s : State) : (goBusy p s).din = s.din := rfl
@[simp] theorem goBusy_sk (p : Phase) (s : State) : (goBusy p s).sk = s.sk := rfl
@[simp] theorem goBusy_dout (p : Phase) (s : State) : (goBusy p s).dout = s.dout := rfl
@[simp] theorem goBusy_len (p : Phase) (s : State) : (goBusy p s).len = s.len := rfl
@[simp] theorem goBusy_buf (p : Phase) (s : State) : (goBusy p s).buf = s.buf := rfl
@[simp] theorem goBusy_icnt (p : Phase) (s : State) : (goBusy p s).icnt = s.icnt := rfl
@[simp] theorem goBusy_ocnt (p : Phase) (s : State) : (goBusy p s).ocnt = s.ocnt := rfl
@[simp] theorem goBusy_gcnt (p : Phase) (s : State) : (goBusy p s).gcnt = s.gcnt := rfl
@[simp] theorem goBusy_gtot (p : Phase) (s : State) : (goBusy p s).gtot = s.gtot := rfl
@[simp] theorem goBusy_rk (p : Phase) (s : State) : (goBusy p s).rk = s.rk := rfl
@[simp] theorem goBusy_wlim (p : Phase) (s : State) : (goBusy p s).wlim = s.wlim := rfl
@[simp] theorem goBusy_env (p : Phase) (s : State) : (goBusy p s).env = s.env := rfl

/-! ### setPadOfLen -/

@[simp] theorem setPadOfLen_cfg (s : State) : (setPadOfLen s).cfg = s.cfg := rfl
@[simp] theorem setPadOfLen_st (s : State) : (setPadOfLen s).st = { s.st with pad := BitVec.ofNat 2 (padcount s.len.toNat) } := rfl
@[simp] theorem setPadOfLen_key (s : State) : (setPadOfLen s).key = s.key := rfl
@[simp] theorem setPadOfLen_nr (s : State) : (setPadOfLen s).nr = s.nr := rfl
@[simp] theorem setPadOfLen_din (s : State) : (setPadOfLen s).din = s.din := rfl
@[simp] theorem setPadOfLen_sk (s : State) : (setPadOfLen s).sk = s.sk := rfl
@[simp] theorem setPadOfLen_dout (s : State) : (setPadOfLen s).dout = s.dout := rfl
@[simp] theorem setPadOfLen_len (s : State) : (setPadOfLen s).len = s.len := rfl
@[simp] theorem setPadOfLen_buf (s : State) : (setPadOfLen s).buf = s.buf := rfl
@[simp] theorem setPadOfLen_icnt (s : State) : (setPadOfLen s).icnt = s.icnt := rfl
@[simp] theorem setPadOfLen_ocnt (s : State) : (setPadOfLen s).ocnt = s.ocnt := rfl
@[simp] theorem setPadOfLen_gcnt (s : State) : (setPadOfLen s).gcnt = s.gcnt := rfl
@[simp] theorem setPadOfLen_gtot (s : State) : (setPadOfLen s).gtot = s.gtot := rfl
@[simp] theorem setPadOfLen_rk (s : State) : (setPadOfLen s).rk = s.rk := rfl
@[simp] theorem setPadOfLen_wlim (s : State) : (setPadOfLen s).wlim = s.wlim := rfl
@[simp] theorem setPadOfLen_env (s : State) : (setPadOfLen s).env = s.env := rfl

/-! ### setGtot -/

@[simp] theorem setGtot_cfg (s : State) : (setGtot s).cfg = s.cfg := rfl
@[simp] theorem setGtot_st (s : State) : (setGtot s).st = s.st := rfl
@[simp] theorem setGtot_key (s : State) : (setGtot s).key = s.key := rfl
@[simp] theorem setGtot_nr (s : State) : (setGtot s).nr = s.nr := rfl
@[simp] theorem setGtot_din (s : State) : (setGtot s).din = s.din := rfl
@[simp] theorem setGtot_sk (s : State) : (setGtot s).sk = s.sk := rfl
@[simp] theorem setGtot_dout (s : State) : (setGtot s).dout = s.dout := rfl
@[simp] theorem setGtot_len (s : State) : (setGtot s).len = s.len := rfl
@[simp] theorem setGtot_buf (s : State) : (setGtot s).buf = s.buf := rfl
@[simp] theorem setGtot_icnt (s : State) : (setGtot s).icnt = s.icnt := rfl
@[simp] theorem setGtot_ocnt (s : State) : (setGtot s).ocnt = s.ocnt := rfl
@[simp] theorem setGtot_gcnt (s : State) : (setGtot s).gcnt = s.gcnt := rfl
@[simp] theorem setGtot_gtot (s : State) : (setGtot s).gtot = BitVec.ofNat 32 ((s.len.toNat - 1) / 3) := rfl
@[simp] theorem setGtot_rk (s : State) : (setGtot s).rk = s.rk := rfl
@[simp] theorem setGtot_wlim (s : State) : (setGtot s).wlim = s.wlim := rfl
@[simp] theorem setGtot_env (s : State) : (setGtot s).env = s.env := rfl

/-! ### toPhase -/

@[simp] theorem toPhase_cfg (p : Phase) (s : State) : (toPhase p s).cfg = s.cfg := rfl
@[simp] theorem toPhase_st (p : Phase) (s : State) : (toPhase p s).st = { s.st with phase := p } := rfl
@[simp] theorem toPhase_key (p : Phase) (s : State) : (toPhase p s).key = s.key := rfl
@[simp] theorem toPhase_nr (p : Phase) (s : State) : (toPhase p s).nr = s.nr := rfl
@[simp] theorem toPhase_din (p : Phase) (s : State) : (toPhase p s).din = s.din := rfl
@[simp] theorem toPhase_sk (p : Phase) (s : State) : (toPhase p s).sk = s.sk := rfl
@[simp] theorem toPhase_dout (p : Phase) (s : State) : (toPhase p s).dout = s.dout := rfl
@[simp] theorem toPhase_len (p : Phase) (s : State) : (toPhase p s).len = s.len := rfl
@[simp] theorem toPhase_buf (p : Phase) (s : State) : (toPhase p s).buf = s.buf := rfl
@[simp] theorem toPhase_icnt (p : Phase) (s : State) : (toPhase p s).icnt = s.icnt := rfl
@[simp] theorem toPhase_ocnt (p : Phase) (s : State) : (toPhase p s).ocnt = s.ocnt := rfl
@[simp] theorem toPhase_gcnt (p : Phase) (s : State) : (toPhase p s).gcnt = s.gcnt := rfl
@[simp] theorem toPhase_gtot (p : Phase) (s : State) : (toPhase p s).gtot = s.gtot := rfl
@[simp] theorem toPhase_rk (p : Phase) (s : State) : (toPhase p s).rk = s.rk := rfl
@[simp] theorem toPhase_wlim (p : Phase) (s : State) : (toPhase p s).wlim = s.wlim := rfl
@[simp] theorem toPhase_env (p : Phase) (s : State) : (toPhase p s).env = s.env := rfl

/-! ### setBidx -/

@[simp] theorem setBidx_cfg (j : BitVec 2) (s : State) : (setBidx j s).cfg = s.cfg := rfl
@[simp] theorem setBidx_st (j : BitVec 2) (s : State) : (setBidx j s).st = { s.st with bidx := j } := rfl
@[simp] theorem setBidx_key (j : BitVec 2) (s : State) : (setBidx j s).key = s.key := rfl
@[simp] theorem setBidx_nr (j : BitVec 2) (s : State) : (setBidx j s).nr = s.nr := rfl
@[simp] theorem setBidx_din (j : BitVec 2) (s : State) : (setBidx j s).din = s.din := rfl
@[simp] theorem setBidx_sk (j : BitVec 2) (s : State) : (setBidx j s).sk = s.sk := rfl
@[simp] theorem setBidx_dout (j : BitVec 2) (s : State) : (setBidx j s).dout = s.dout := rfl
@[simp] theorem setBidx_len (j : BitVec 2) (s : State) : (setBidx j s).len = s.len := rfl
@[simp] theorem setBidx_buf (j : BitVec 2) (s : State) : (setBidx j s).buf = s.buf := rfl
@[simp] theorem setBidx_icnt (j : BitVec 2) (s : State) : (setBidx j s).icnt = s.icnt := rfl
@[simp] theorem setBidx_ocnt (j : BitVec 2) (s : State) : (setBidx j s).ocnt = s.ocnt := rfl
@[simp] theorem setBidx_gcnt (j : BitVec 2) (s : State) : (setBidx j s).gcnt = s.gcnt := rfl
@[simp] theorem setBidx_gtot (j : BitVec 2) (s : State) : (setBidx j s).gtot = s.gtot := rfl
@[simp] theorem setBidx_rk (j : BitVec 2) (s : State) : (setBidx j s).rk = s.rk := rfl
@[simp] theorem setBidx_wlim (j : BitVec 2) (s : State) : (setBidx j s).wlim = s.wlim := rfl
@[simp] theorem setBidx_env (j : BitVec 2) (s : State) : (setBidx j s).env = s.env := rfl

/-! ### groupDone -/

@[simp] theorem groupDone_cfg (s : State) : (groupDone s).cfg = s.cfg := rfl
@[simp] theorem groupDone_st (s : State) : (groupDone s).st = { s.st with bidx := 0 } := rfl
@[simp] theorem groupDone_key (s : State) : (groupDone s).key = s.key := rfl
@[simp] theorem groupDone_nr (s : State) : (groupDone s).nr = s.nr := rfl
@[simp] theorem groupDone_din (s : State) : (groupDone s).din = s.din := rfl
@[simp] theorem groupDone_sk (s : State) : (groupDone s).sk = s.sk := rfl
@[simp] theorem groupDone_dout (s : State) : (groupDone s).dout = s.dout := rfl
@[simp] theorem groupDone_len (s : State) : (groupDone s).len = s.len := rfl
@[simp] theorem groupDone_buf (s : State) : (groupDone s).buf = s.buf := rfl
@[simp] theorem groupDone_icnt (s : State) : (groupDone s).icnt = s.icnt := rfl
@[simp] theorem groupDone_ocnt (s : State) : (groupDone s).ocnt = s.ocnt := rfl
@[simp] theorem groupDone_gcnt (s : State) : (groupDone s).gcnt = s.gcnt + 1 := rfl
@[simp] theorem groupDone_gtot (s : State) : (groupDone s).gtot = s.gtot := rfl
@[simp] theorem groupDone_rk (s : State) : (groupDone s).rk = s.rk := rfl
@[simp] theorem groupDone_wlim (s : State) : (groupDone s).wlim = s.wlim := rfl
@[simp] theorem groupDone_env (s : State) : (groupDone s).env = s.env := rfl

/-! ### asked -/

@[simp] theorem asked_cfg (r : Request) (rest : List Answer) (s : State) : (asked r rest s).cfg = s.cfg := rfl
@[simp] theorem asked_st (r : Request) (rest : List Answer) (s : State) : (asked r rest s).st = s.st := rfl
@[simp] theorem asked_key (r : Request) (rest : List Answer) (s : State) : (asked r rest s).key = s.key := rfl
@[simp] theorem asked_nr (r : Request) (rest : List Answer) (s : State) : (asked r rest s).nr = s.nr := rfl
@[simp] theorem asked_din (r : Request) (rest : List Answer) (s : State) : (asked r rest s).din = s.din := rfl
@[simp] theorem asked_sk (r : Request) (rest : List Answer) (s : State) : (asked r rest s).sk = s.sk := rfl
@[simp] theorem asked_dout (r : Request) (rest : List Answer) (s : State) : (asked r rest s).dout = s.dout := rfl
@[simp] theorem asked_len (r : Request) (rest : List Answer) (s : State) : (asked r rest s).len = s.len := rfl
@[simp] theorem asked_buf (r : Request) (rest : List Answer) (s : State) : (asked r rest s).buf = s.buf := rfl
@[simp] theorem asked_icnt (r : Request) (rest : List Answer) (s : State) : (asked r rest s).icnt = s.icnt := rfl
@[simp] theorem asked_ocnt (r : Request) (rest : List Answer) (s : State) : (asked r rest s).ocnt = s.ocnt := rfl
@[simp] theorem asked_gcnt (r : Request) (rest : List Answer) (s : State) : (asked r rest s).gcnt = s.gcnt := rfl
@[simp] theorem asked_gtot (r : Request) (rest : List Answer) (s : State) : (asked r rest s).gtot = s.gtot := rfl
@[simp] theorem asked_rk (r : Request) (rest : List Answer) (s : State) : (asked r rest s).rk = s.rk := rfl
@[simp] theorem asked_wlim (r : Request) (rest : List Answer) (s : State) : (asked r rest s).wlim = s.wlim := rfl
@[simp] theorem asked_env (r : Request) (rest : List Answer) (s : State) : (asked r rest s).env = { s.env with answers := rest, trace := .request r :: s.env.trace } := rfl

/-! ### wrote -/

@[simp] theorem wrote_cfg (b : Byte) (s : State) : (wrote b s).cfg = s.cfg := rfl
@[simp] theorem wrote_st (b : Byte) (s : State) : (wrote b s).st = s.st := rfl
@[simp] theorem wrote_key (b : Byte) (s : State) : (wrote b s).key = s.key := rfl
@[simp] theorem wrote_nr (b : Byte) (s : State) : (wrote b s).nr = s.nr := rfl
@[simp] theorem wrote_din (b : Byte) (s : State) : (wrote b s).din = s.din := rfl
@[simp] theorem wrote_sk (b : Byte) (s : State) : (wrote b s).sk = s.sk := rfl
@[simp] theorem wrote_dout (b : Byte) (s : State) : (wrote b s).dout = s.dout := rfl
@[simp] theorem wrote_len (b : Byte) (s : State) : (wrote b s).len = s.len := rfl
@[simp] theorem wrote_buf (b : Byte) (s : State) : (wrote b s).buf = s.buf := rfl
@[simp] theorem wrote_icnt (b : Byte) (s : State) : (wrote b s).icnt = s.icnt := rfl
@[simp] theorem wrote_ocnt (b : Byte) (s : State) : (wrote b s).ocnt = s.ocnt + 1 := rfl
@[simp] theorem wrote_gcnt (b : Byte) (s : State) : (wrote b s).gcnt = s.gcnt := rfl
@[simp] theorem wrote_gtot (b : Byte) (s : State) : (wrote b s).gtot = s.gtot := rfl
@[simp] theorem wrote_rk (b : Byte) (s : State) : (wrote b s).rk = s.rk := rfl
@[simp] theorem wrote_wlim (b : Byte) (s : State) : (wrote b s).wlim = s.wlim := rfl
@[simp] theorem wrote_env (b : Byte) (s : State) : (wrote b s).env = { s.env with output := s.env.output ++ [b] } := rfl

/-! ### hostRead -/

@[simp] theorem hostRead_cfg (i : Fin 64) (s : State) : (hostRead i s).cfg = s.cfg := rfl
@[simp] theorem hostRead_st (i : Fin 64) (s : State) : (hostRead i s).st = s.st := rfl
@[simp] theorem hostRead_key (i : Fin 64) (s : State) : (hostRead i s).key = s.key := rfl
@[simp] theorem hostRead_nr (i : Fin 64) (s : State) : (hostRead i s).nr = s.nr := rfl
@[simp] theorem hostRead_din (i : Fin 64) (s : State) : (hostRead i s).din = s.din := rfl
@[simp] theorem hostRead_sk (i : Fin 64) (s : State) : (hostRead i s).sk = s.sk := rfl
@[simp] theorem hostRead_dout (i : Fin 64) (s : State) : (hostRead i s).dout = s.dout := rfl
@[simp] theorem hostRead_len (i : Fin 64) (s : State) : (hostRead i s).len = s.len := rfl
@[simp] theorem hostRead_buf (i : Fin 64) (s : State) : (hostRead i s).buf = s.buf := rfl
@[simp] theorem hostRead_icnt (i : Fin 64) (s : State) : (hostRead i s).icnt = s.icnt := rfl
@[simp] theorem hostRead_ocnt (i : Fin 64) (s : State) : (hostRead i s).ocnt = s.ocnt := rfl
@[simp] theorem hostRead_gcnt (i : Fin 64) (s : State) : (hostRead i s).gcnt = s.gcnt := rfl
@[simp] theorem hostRead_gtot (i : Fin 64) (s : State) : (hostRead i s).gtot = s.gtot := rfl
@[simp] theorem hostRead_rk (i : Fin 64) (s : State) : (hostRead i s).rk = s.rk := rfl
@[simp] theorem hostRead_wlim (i : Fin 64) (s : State) : (hostRead i s).wlim = s.wlim := rfl
@[simp] theorem hostRead_env (i : Fin 64) (s : State) : (hostRead i s).env = { s.env with trace := .value i (readIndex i s) :: s.env.trace } := rfl

/-! ### reissue -/

@[simp] theorem reissue_cfg (i : Instr) (s : State) : (reissue i s).cfg = s.cfg := rfl
@[simp] theorem reissue_st (i : Instr) (s : State) : (reissue i s).st = s.st := rfl
@[simp] theorem reissue_key (i : Instr) (s : State) : (reissue i s).key = s.key := rfl
@[simp] theorem reissue_nr (i : Instr) (s : State) : (reissue i s).nr = s.nr := rfl
@[simp] theorem reissue_din (i : Instr) (s : State) : (reissue i s).din = s.din := rfl
@[simp] theorem reissue_sk (i : Instr) (s : State) : (reissue i s).sk = s.sk := rfl
@[simp] theorem reissue_dout (i : Instr) (s : State) : (reissue i s).dout = s.dout := rfl
@[simp] theorem reissue_len (i : Instr) (s : State) : (reissue i s).len = s.len := rfl
@[simp] theorem reissue_buf (i : Instr) (s : State) : (reissue i s).buf = s.buf := rfl
@[simp] theorem reissue_icnt (i : Instr) (s : State) : (reissue i s).icnt = s.icnt := rfl
@[simp] theorem reissue_ocnt (i : Instr) (s : State) : (reissue i s).ocnt = s.ocnt := rfl
@[simp] theorem reissue_gcnt (i : Instr) (s : State) : (reissue i s).gcnt = s.gcnt := rfl
@[simp] theorem reissue_gtot (i : Instr) (s : State) : (reissue i s).gtot = s.gtot := rfl
@[simp] theorem reissue_rk (i : Instr) (s : State) : (reissue i s).rk = s.rk := rfl
@[simp] theorem reissue_wlim (i : Instr) (s : State) : (reissue i s).wlim = s.wlim := rfl
@[simp] theorem reissue_env (i : Instr) (s : State) : (reissue i s).env = { s.env with actions := .write 0 (Sys2Proof.encode i) :: s.env.actions } := rfl

/-! ### closeIn -/

@[simp] theorem closeIn_cfg (s : State) : (closeIn s).cfg = s.cfg := by unfold closeIn; split <;> rfl
@[simp] theorem closeIn_st (s : State) : (closeIn s).st = { s.st with inOpen := false } := by
  unfold closeIn
  split
  · rfl
  · rename_i h
    cases s with | mk cfg st => cases st; simp_all
@[simp] theorem closeIn_key (s : State) : (closeIn s).key = s.key := by unfold closeIn; split <;> rfl
@[simp] theorem closeIn_nr (s : State) : (closeIn s).nr = s.nr := by unfold closeIn; split <;> rfl
@[simp] theorem closeIn_din (s : State) : (closeIn s).din = s.din := by unfold closeIn; split <;> rfl
@[simp] theorem closeIn_sk (s : State) : (closeIn s).sk = s.sk := by unfold closeIn; split <;> rfl
@[simp] theorem closeIn_dout (s : State) : (closeIn s).dout = s.dout := by unfold closeIn; split <;> rfl
@[simp] theorem closeIn_len (s : State) : (closeIn s).len = s.len := by unfold closeIn; split <;> rfl
@[simp] theorem closeIn_buf (s : State) : (closeIn s).buf = s.buf := by unfold closeIn; split <;> rfl
@[simp] theorem closeIn_icnt (s : State) : (closeIn s).icnt = s.icnt := by unfold closeIn; split <;> rfl
@[simp] theorem closeIn_ocnt (s : State) : (closeIn s).ocnt = s.ocnt := by unfold closeIn; split <;> rfl
@[simp] theorem closeIn_gcnt (s : State) : (closeIn s).gcnt = s.gcnt := by unfold closeIn; split <;> rfl
@[simp] theorem closeIn_gtot (s : State) : (closeIn s).gtot = s.gtot := by unfold closeIn; split <;> rfl
@[simp] theorem closeIn_rk (s : State) : (closeIn s).rk = s.rk := by unfold closeIn; split <;> rfl
@[simp] theorem closeIn_wlim (s : State) : (closeIn s).wlim = s.wlim := by unfold closeIn; split <;> rfl
@[simp] theorem closeIn_env_trace (s : State) :
    (closeIn s).env.trace = if s.st.inOpen then .request .inClose :: s.env.trace else s.env.trace := by
  unfold closeIn; split <;> rfl
@[simp] theorem closeIn_env_input (s : State) : (closeIn s).env.input = s.env.input := by unfold closeIn; split <;> rfl
@[simp] theorem closeIn_env_output (s : State) : (closeIn s).env.output = s.env.output := by unfold closeIn; split <;> rfl
@[simp] theorem closeIn_env_outputTrusted (s : State) : (closeIn s).env.outputTrusted = s.env.outputTrusted := by unfold closeIn; split <;> rfl
@[simp] theorem closeIn_env_answers (s : State) : (closeIn s).env.answers = s.env.answers := by unfold closeIn; split <;> rfl
@[simp] theorem closeIn_env_actions (s : State) : (closeIn s).env.actions = s.env.actions := by unfold closeIn; split <;> rfl

/-! ### closeOut -/

@[simp] theorem closeOut_cfg (s : State) : (closeOut s).cfg = s.cfg := by unfold closeOut; split <;> rfl
@[simp] theorem closeOut_st (s : State) : (closeOut s).st = { s.st with outOpen := false } := by
  unfold closeOut
  split
  · rfl
  · rename_i h
    cases s with | mk cfg st => cases st; simp_all
@[simp] theorem closeOut_key (s : State) : (closeOut s).key = s.key := by unfold closeOut; split <;> rfl
@[simp] theorem closeOut_nr (s : State) : (closeOut s).nr = s.nr := by unfold closeOut; split <;> rfl
@[simp] theorem closeOut_din (s : State) : (closeOut s).din = s.din := by unfold closeOut; split <;> rfl
@[simp] theorem closeOut_sk (s : State) : (closeOut s).sk = s.sk := by unfold closeOut; split <;> rfl
@[simp] theorem closeOut_dout (s : State) : (closeOut s).dout = s.dout := by unfold closeOut; split <;> rfl
@[simp] theorem closeOut_len (s : State) : (closeOut s).len = s.len := by unfold closeOut; split <;> rfl
@[simp] theorem closeOut_buf (s : State) : (closeOut s).buf = s.buf := by unfold closeOut; split <;> rfl
@[simp] theorem closeOut_icnt (s : State) : (closeOut s).icnt = s.icnt := by unfold closeOut; split <;> rfl
@[simp] theorem closeOut_ocnt (s : State) : (closeOut s).ocnt = s.ocnt := by unfold closeOut; split <;> rfl
@[simp] theorem closeOut_gcnt (s : State) : (closeOut s).gcnt = s.gcnt := by unfold closeOut; split <;> rfl
@[simp] theorem closeOut_gtot (s : State) : (closeOut s).gtot = s.gtot := by unfold closeOut; split <;> rfl
@[simp] theorem closeOut_rk (s : State) : (closeOut s).rk = s.rk := by unfold closeOut; split <;> rfl
@[simp] theorem closeOut_wlim (s : State) : (closeOut s).wlim = s.wlim := by unfold closeOut; split <;> rfl
@[simp] theorem closeOut_env_trace (s : State) :
    (closeOut s).env.trace = if s.st.outOpen then .request .outClose :: s.env.trace else s.env.trace := by
  unfold closeOut; split <;> rfl
@[simp] theorem closeOut_env_input (s : State) : (closeOut s).env.input = s.env.input := by unfold closeOut; split <;> rfl
@[simp] theorem closeOut_env_output (s : State) : (closeOut s).env.output = s.env.output := by unfold closeOut; split <;> rfl
@[simp] theorem closeOut_env_outputTrusted (s : State) : (closeOut s).env.outputTrusted = s.env.outputTrusted := by unfold closeOut; split <;> rfl
@[simp] theorem closeOut_env_answers (s : State) : (closeOut s).env.answers = s.env.answers := by unfold closeOut; split <;> rfl
@[simp] theorem closeOut_env_actions (s : State) : (closeOut s).env.actions = s.env.actions := by unfold closeOut; split <;> rfl

/-! ### streamFinish -/

@[simp] theorem streamFinish_cfg (e : ErrCode) (s : State) : (streamFinish e s).cfg = s.cfg := by simp [streamFinish]
@[simp] theorem streamFinish_st (e : ErrCode) (s : State) :
    (streamFinish e s).st = 
      { s.st with
        err := e, done := true, phase := .idle, busy := false, bidx := 0, rkv := false, rkn := 0, inOpen := false, outOpen := false } := by simp [streamFinish]
@[simp] theorem streamFinish_key (e : ErrCode) (s : State) : (streamFinish e s).key = s.key := by simp [streamFinish]
@[simp] theorem streamFinish_nr (e : ErrCode) (s : State) : (streamFinish e s).nr = s.nr := by simp [streamFinish]
@[simp] theorem streamFinish_din (e : ErrCode) (s : State) : (streamFinish e s).din = s.din := by simp [streamFinish]
@[simp] theorem streamFinish_sk (e : ErrCode) (s : State) : (streamFinish e s).sk = s.sk := by simp [streamFinish]
@[simp] theorem streamFinish_dout (e : ErrCode) (s : State) : (streamFinish e s).dout = s.dout := by simp [streamFinish]
@[simp] theorem streamFinish_len (e : ErrCode) (s : State) : (streamFinish e s).len = s.len := by simp [streamFinish]
@[simp] theorem streamFinish_buf (e : ErrCode) (s : State) : (streamFinish e s).buf = s.buf := by simp [streamFinish]
@[simp] theorem streamFinish_icnt (e : ErrCode) (s : State) : (streamFinish e s).icnt = s.icnt := by simp [streamFinish]
@[simp] theorem streamFinish_ocnt (e : ErrCode) (s : State) : (streamFinish e s).ocnt = s.ocnt := by simp [streamFinish]
@[simp] theorem streamFinish_gcnt (e : ErrCode) (s : State) : (streamFinish e s).gcnt = s.gcnt := by simp [streamFinish]
@[simp] theorem streamFinish_gtot (e : ErrCode) (s : State) : (streamFinish e s).gtot = s.gtot := by simp [streamFinish]
@[simp] theorem streamFinish_rk (e : ErrCode) (s : State) : (streamFinish e s).rk = zeroRk := by simp [streamFinish]
@[simp] theorem streamFinish_wlim (e : ErrCode) (s : State) : (streamFinish e s).wlim = s.wlim := by simp [streamFinish]
@[simp] theorem streamFinish_env_trace (e : ErrCode) (s : State) :
    (streamFinish e s).env.trace =
      (if s.st.outOpen then [.request .outClose] else []) ++ (if s.st.inOpen then [.request .inClose] else [])
        ++ s.env.trace := by
  simp [streamFinish]; split <;> split <;> simp
@[simp] theorem streamFinish_env_input (e : ErrCode) (s : State) : (streamFinish e s).env.input = s.env.input := by simp [streamFinish]
@[simp] theorem streamFinish_env_output (e : ErrCode) (s : State) : (streamFinish e s).env.output = s.env.output := by simp [streamFinish]
@[simp] theorem streamFinish_env_outputTrusted (e : ErrCode) (s : State) : (streamFinish e s).env.outputTrusted = s.env.outputTrusted := by simp [streamFinish]
@[simp] theorem streamFinish_env_answers (e : ErrCode) (s : State) : (streamFinish e s).env.answers = s.env.answers := by simp [streamFinish]
@[simp] theorem streamFinish_env_actions (e : ErrCode) (s : State) : (streamFinish e s).env.actions = s.env.actions := by simp [streamFinish]

/-! ### streamRaise -/

@[simp] theorem streamRaise_cfg (e : ErrCode) (s : State) : (streamRaise e s).cfg = s.cfg := by simp [streamRaise]
@[simp] theorem streamRaise_st (e : ErrCode) (s : State) :
    (streamRaise e s).st = 
      { s.st with
        err := e, done := true, phase := .idle, busy := false, bidx := 0, rkv := false, rkn := 0, inOpen := false, outOpen := false } := by simp [streamRaise]
@[simp] theorem streamRaise_key (e : ErrCode) (s : State) : (streamRaise e s).key = s.key := by simp [streamRaise]
@[simp] theorem streamRaise_nr (e : ErrCode) (s : State) : (streamRaise e s).nr = s.nr := by simp [streamRaise]
@[simp] theorem streamRaise_din (e : ErrCode) (s : State) : (streamRaise e s).din = s.din := by simp [streamRaise]
@[simp] theorem streamRaise_sk (e : ErrCode) (s : State) : (streamRaise e s).sk = s.sk := by simp [streamRaise]
@[simp] theorem streamRaise_dout (e : ErrCode) (s : State) : (streamRaise e s).dout = s.dout := by simp [streamRaise]
@[simp] theorem streamRaise_len (e : ErrCode) (s : State) : (streamRaise e s).len = s.len := by simp [streamRaise]
@[simp] theorem streamRaise_buf (e : ErrCode) (s : State) : (streamRaise e s).buf = s.buf := by simp [streamRaise]
@[simp] theorem streamRaise_icnt (e : ErrCode) (s : State) : (streamRaise e s).icnt = s.icnt := by simp [streamRaise]
@[simp] theorem streamRaise_ocnt (e : ErrCode) (s : State) : (streamRaise e s).ocnt = s.ocnt := by simp [streamRaise]
@[simp] theorem streamRaise_gcnt (e : ErrCode) (s : State) : (streamRaise e s).gcnt = s.gcnt := by simp [streamRaise]
@[simp] theorem streamRaise_gtot (e : ErrCode) (s : State) : (streamRaise e s).gtot = s.gtot := by simp [streamRaise]
@[simp] theorem streamRaise_rk (e : ErrCode) (s : State) : (streamRaise e s).rk = zeroRk := by simp [streamRaise]
@[simp] theorem streamRaise_wlim (e : ErrCode) (s : State) : (streamRaise e s).wlim = s.wlim := by simp [streamRaise]
@[simp] theorem streamRaise_env_trace (e : ErrCode) (s : State) :
    (streamRaise e s).env.trace =
      (if s.st.outOpen then [.request .outClose] else []) ++ (if s.st.inOpen then [.request .inClose] else [])
        ++ s.env.trace := by
  simp [streamRaise]
@[simp] theorem streamRaise_env_input (e : ErrCode) (s : State) : (streamRaise e s).env.input = s.env.input := by simp [streamRaise]
@[simp] theorem streamRaise_env_output (e : ErrCode) (s : State) : (streamRaise e s).env.output = s.env.output := by simp [streamRaise]
@[simp] theorem streamRaise_env_outputTrusted (e : ErrCode) (s : State) : (streamRaise e s).env.outputTrusted = false := by simp [streamRaise]
@[simp] theorem streamRaise_env_answers (e : ErrCode) (s : State) : (streamRaise e s).env.answers = s.env.answers := by simp [streamRaise]
@[simp] theorem streamRaise_env_actions (e : ErrCode) (s : State) : (streamRaise e s).env.actions = s.env.actions := by simp [streamRaise]

/-! ### encTake and decTake -/

@[simp] theorem encTake_cfg (bs : List Byte) (s : State) : (encTake bs s).cfg = s.cfg := rfl
@[simp] theorem encTake_st (bs : List Byte) (s : State) : (encTake bs s).st = { s.st with bidx := 0, phase := .encWrite } := rfl
@[simp] theorem encTake_key (bs : List Byte) (s : State) : (encTake bs s).key = s.key := rfl
@[simp] theorem encTake_nr (bs : List Byte) (s : State) : (encTake bs s).nr = s.nr := rfl
@[simp] theorem encTake_din (bs : List Byte) (s : State) : (encTake bs s).din = s.din := rfl
@[simp] theorem encTake_sk (bs : List Byte) (s : State) : (encTake bs s).sk = s.sk := rfl
@[simp] theorem encTake_dout (bs : List Byte) (s : State) : (encTake bs s).dout = s.dout := rfl
@[simp] theorem encTake_len (bs : List Byte) (s : State) : (encTake bs s).len = s.len := rfl
@[simp] theorem encTake_buf (bs : List Byte) (s : State) : (encTake bs s).buf = encryptGroup s.cfg (subkeys s) (unpack bs) := rfl
@[simp] theorem encTake_icnt (bs : List Byte) (s : State) : (encTake bs s).icnt = s.icnt + BitVec.ofNat 32 bs.length := rfl
@[simp] theorem encTake_ocnt (bs : List Byte) (s : State) : (encTake bs s).ocnt = s.ocnt := rfl
@[simp] theorem encTake_gcnt (bs : List Byte) (s : State) : (encTake bs s).gcnt = s.gcnt := rfl
@[simp] theorem encTake_gtot (bs : List Byte) (s : State) : (encTake bs s).gtot = s.gtot := rfl
@[simp] theorem encTake_rk (bs : List Byte) (s : State) : (encTake bs s).rk = s.rk := rfl
@[simp] theorem encTake_wlim (bs : List Byte) (s : State) : (encTake bs s).wlim = 3 := rfl
@[simp] theorem encTake_env (bs : List Byte) (s : State) : (encTake bs s).env = s.env := rfl
@[simp] theorem decTake_cfg (bs : List Byte) (s : State) : (decTake bs s).cfg = s.cfg := rfl
@[simp] theorem decTake_st (bs : List Byte) (s : State) : (decTake bs s).st = { s.st with bidx := 0, phase := .decWrite } := rfl
@[simp] theorem decTake_key (bs : List Byte) (s : State) : (decTake bs s).key = s.key := rfl
@[simp] theorem decTake_nr (bs : List Byte) (s : State) : (decTake bs s).nr = s.nr := rfl
@[simp] theorem decTake_din (bs : List Byte) (s : State) : (decTake bs s).din = s.din := rfl
@[simp] theorem decTake_sk (bs : List Byte) (s : State) : (decTake bs s).sk = s.sk := rfl
@[simp] theorem decTake_dout (bs : List Byte) (s : State) : (decTake bs s).dout = s.dout := rfl
@[simp] theorem decTake_len (bs : List Byte) (s : State) : (decTake bs s).len = s.len := rfl
@[simp] theorem decTake_buf (bs : List Byte) (s : State) : (decTake bs s).buf = decryptGroup s.cfg (subkeys s) (unpack bs) := rfl
@[simp] theorem decTake_icnt (bs : List Byte) (s : State) : (decTake bs s).icnt = s.icnt + 3 := rfl
@[simp] theorem decTake_ocnt (bs : List Byte) (s : State) : (decTake bs s).ocnt = s.ocnt := rfl
@[simp] theorem decTake_gcnt (bs : List Byte) (s : State) : (decTake bs s).gcnt = s.gcnt := rfl
@[simp] theorem decTake_gtot (bs : List Byte) (s : State) : (decTake bs s).gtot = s.gtot := rfl
@[simp] theorem decTake_rk (bs : List Byte) (s : State) : (decTake bs s).rk = s.rk := rfl
@[simp] theorem decTake_wlim (bs : List Byte) (s : State) : (decTake bs s).wlim = if s.gcnt = s.gtot - 1 then 3 - s.st.pad else 3 := rfl
@[simp] theorem decTake_env (bs : List Byte) (s : State) : (decTake bs s).env = s.env := rfl

end Sys2Proof.Machine
end

