-- ==== Sys2Proof/Laws/Ops.lean ====
section
/-! SUPPORT. What the shared operations can do, said once: the port requests, the schedule checks, the start steps. -/

namespace Sys2Proof.Machine

/-! ## Port requests (00_scope.md R12) -/

theorem ask_unanswered {r : Request} {s : State} (h : s.env.answers = []) : ask r s = none := by
  simp [ask, h]

theorem ask_answered {r : Request} {s : State} {a : Answer} {rest : List Answer} (h : s.env.answers = a :: rest) :
    ask r s = some (a, asked r rest s) := by
  simp [ask, h]

/-- A read step: the host leaves it unanswered, answers ReadErr, or answers with bytes it has. -/
theorem withRead_next {k : Nat} {s t : State} {use : List Byte → State → Result} (h : withRead k s use = .next t) :
    (s.env.answers = [] ∧ t = s)
    ∨ (∃ rest, s.env.answers = .error :: rest ∧ t = streamRaise .ioRead (asked (.inRead k) rest s))
    ∨ (∃ rest, s.env.answers = .ok :: rest ∧ s.env.input.length = s.len.toNat
        ∧ use (nextBytes k s) (asked (.inRead k) rest s) = .next t) := by
  cases hans : s.env.answers with
  | nil =>
    simp only [withRead, ask_unanswered hans, Host.Outcome.next.injEq] at h
    exact .inl ⟨rfl, h.symm⟩
  | cons a rest =>
    cases a with
    | error =>
      simp only [withRead, ask_answered hans, Host.Outcome.next.injEq] at h
      exact .inr (.inl ⟨rest, rfl, h.symm⟩)
    | ok =>
      simp only [withRead, ask_answered hans] at h
      split at h
      · exact .inr (.inr ⟨rest, rfl, by assumption, h⟩)
      · cases h

/-- Bytes of an input stream whose length differs from LEN are refused (70_reset_and_hazards.md R236). -/
theorem withRead_lengthDiffers {k : Nat} {s : State} {use : List Byte → State → Result} {rest : List Answer}
    (ha : s.env.answers = .ok :: rest) (hl : s.env.input.length ≠ s.len.toNat) :
    withRead k s use = .refused .inputStreamLength := by
  simp only [withRead, ask_answered ha, if_neg hl]

/-- Bytes of a stream of exactly LEN bytes go on to the step. -/
theorem withRead_answered {k : Nat} {s : State} {use : List Byte → State → Result} {rest : List Answer}
    (ha : s.env.answers = .ok :: rest) (hl : s.env.input.length = s.len.toNat) :
    withRead k s use = use (nextBytes k s) (asked (.inRead k) rest s) := by
  simp only [withRead, ask_answered ha, if_pos hl]

/-- A write step: the host leaves it unanswered, answers WriteErr, or appends the byte. -/
theorem withWrite_next {b : Byte} {s t : State} {after : State → State} (h : withWrite b s after = .next t) :
    (s.env.answers = [] ∧ t = s)
    ∨ (∃ rest, s.env.answers = .error :: rest ∧ t = streamRaise .ioWrite (asked (.outWrite b) rest s))
    ∨ (∃ rest, s.env.answers = .ok :: rest ∧ t = after (wrote b (asked (.outWrite b) rest s))) := by
  cases hans : s.env.answers with
  | nil =>
    simp only [withWrite, ask_unanswered hans, Host.Outcome.next.injEq] at h
    exact .inl ⟨rfl, h.symm⟩
  | cons a rest =>
    cases a <;> simp only [withWrite, ask_answered hans, Host.Outcome.next.injEq] at h
    · exact .inr (.inr ⟨rest, rfl, h.symm⟩)
    · exact .inr (.inl ⟨rest, rfl, h.symm⟩)

/-- A write step always answers a next state. -/
theorem withWrite_isNext (b : Byte) (s : State) (after : State → State) : ∃ t, withWrite b s after = .next t := by
  cases hans : s.env.answers with
  | nil => exact ⟨s, by simp only [withWrite, ask_unanswered hans]⟩
  | cons a rest => cases a <;> (simp only [withWrite, ask_answered hans]; exact ⟨_, rfl⟩)

/-- The bytes of an answer are never more than the request's size. -/
theorem nextBytes_length_le (k : Nat) (s : State) : (nextBytes k s).length ≤ readSize k s := by
  simp [nextBytes, List.length_take]

/-- A host whose input holds exactly LEN bytes always has the bytes of a read. -/
theorem nextBytes_length_of_input {k : Nat} {s : State} (h : s.env.input.length = s.len.toNat) :
    (nextBytes k s).length = readSize k s := by
  simp only [nextBytes, readSize, List.length_take, List.length_drop]
  omega

/-! ## The checks of the block commands (60_exceptions.md R200, NOKEYS) -/

theorem withSchedule_loaded {s : State} (h : s.st.rkv = true) (w : Word) :
    withSchedule s w = .next (finishResult w s) := by simp [withSchedule, h]

theorem withSchedule_none {s : State} (h : s.st.rkv = false) (w : Word) :
    withSchedule s w = .next (finish .noKeys s) := by simp [withSchedule, h]

theorem withSchedule_next {s t : State} {w : Word} (h : withSchedule s w = .next t) :
    (s.st.rkv = true ∧ t = finishResult w s) ∨ (s.st.rkv = false ∧ t = finish .noKeys s) := by
  cases hv : s.st.rkv
  · rw [withSchedule_none hv] at h; cases h; exact .inr ⟨rfl, rfl⟩
  · rw [withSchedule_loaded hv] at h; cases h; exact .inl ⟨rfl, rfl⟩

theorem withIndexedKey_next {idx : BitVec 4} {s t : State} {use : Byte → Word} (h : withIndexedKey idx s use = .next t) :
    (idx.toNat < s.st.rkn.toNat ∧ t = finishResult (use (rkEntry s idx)) s)
    ∨ (s.st.rkn.toNat ≤ idx.toNat ∧ t = finish .noKeys s) := by
  unfold withIndexedKey at h
  split at h
  · cases h; exact .inr ⟨by assumption, rfl⟩
  · cases h; exact .inl ⟨by omega, rfl⟩

/-! ## The start steps (43_stream_codec.md R151, R158, R162) -/

/-- The state a stream command's start step has reached when it asks for its input: cleared, with its schedule loaded. -/
def started (r : List Byte) (s : State) : State := loadSchedule r s.nr (clearStream (accept s))

/-- The start of a stream command: CONFIG, or its own schedule. -/
theorem streamStart_some {s t : State} {go : State → Option State} (h : streamStart s go = some t) :
    (schedule s.cfg s.key s.nr = none ∧ t = streamRaise .config (clearStream (accept s)))
    ∨ (∃ r, schedule s.cfg s.key s.nr = some r ∧ go (started r s) = some t) := by
  cases hs : schedule s.cfg s.key s.nr with
  | none => simp [streamStart, hs] at h; exact .inl ⟨rfl, h.symm⟩
  | some r => simp [streamStart, hs] at h; exact .inr ⟨r, rfl, h⟩

theorem openIn_some {s t : State} {go : State → Option State} (h : openIn s go = some t) :
    (∃ rest, s.env.answers = .error :: rest ∧ t = streamRaise .ioOpen (asked .inOpen rest s))
    ∨ (∃ rest, s.env.answers = .ok :: rest ∧ go (setInOpen (asked .inOpen rest s)) = some t) := by
  cases hans : s.env.answers with
  | nil => simp [openIn, ask_unanswered hans] at h
  | cons a rest =>
    cases a <;> simp only [openIn, ask_answered hans] at h
    · exact .inr ⟨rest, rfl, h⟩
    · cases h; exact .inl ⟨rest, rfl, rfl⟩

theorem openOut_some {s t : State} {go : State → Option State} (h : openOut s go = some t) :
    (∃ rest, s.env.answers = .error :: rest ∧ t = streamRaise .ioOpen (asked .outOpen rest s))
    ∨ (∃ rest, s.env.answers = .ok :: rest ∧ go (setOutOpen (asked .outOpen rest s)) = some t) := by
  cases hans : s.env.answers with
  | nil => simp [openOut, ask_unanswered hans] at h
  | cons a rest =>
    cases a <;> simp only [openOut, ask_answered hans] at h
    · exact .inr ⟨rest, rfl, h⟩
    · cases h; exact .inl ⟨rest, rfl, rfl⟩

/-- The state once the input stream is open. -/
def inputOpened (r : List Byte) (rest : List Answer) (s : State) : State := setInOpen (asked .inOpen rest (started r s))

/-- The state once both streams are open. -/
def bothOpened (r : List Byte) (rest rest' : List Answer) (s : State) : State :=
  setOutOpen (asked .outOpen rest' (inputOpened r rest s))

/-- Everything ENCODE's start step can do (43_stream_codec.md R158), with the errors in its order (60_exceptions.md R206). -/
theorem encodeStart_some {s t : State} (h : encodeStart s = some t) :
    (schedule s.cfg s.key s.nr = none ∧ t = streamRaise .config (clearStream (accept s)))
    ∨ ∃ r, schedule s.cfg s.key s.nr = some r ∧
      ((∃ rest, s.env.answers = .error :: rest ∧ t = streamRaise .ioOpen (asked .inOpen rest (started r s)))
      ∨ (∃ rest, s.env.answers = .ok :: .error :: rest
          ∧ t = streamRaise .ioOpen (asked .outOpen rest (inputOpened r (.error :: rest) s)))
      ∨ (∃ rest, s.env.answers = .ok :: .ok :: rest
          ∧ t = goBusy .encHdr (setPadOfLen (bothOpened r (.ok :: rest) rest s)))) := by
  obtain h | ⟨r, hr, h⟩ := streamStart_some h
  · exact .inl h
  · refine .inr ⟨r, hr, ?_⟩
    obtain ⟨rest, ha, rfl⟩ | ⟨rest, ha, h⟩ := openIn_some h
    · exact .inl ⟨rest, ha, rfl⟩
    · have ha : s.env.answers = .ok :: rest := ha
      obtain ⟨rest', ha', rfl⟩ | ⟨rest', ha', h⟩ := openOut_some h
      · have ha' : rest = .error :: rest' := ha'
        exact .inr (.inl ⟨rest', by rw [ha, ha'], by rw [ha']; rfl⟩)
      · have ha' : rest = .ok :: rest' := ha'
        cases h
        exact .inr (.inr ⟨rest', by rw [ha, ha'], by rw [ha']; rfl⟩)

/-- Everything DECODE's start step can do (43_stream_codec.md R162, R163). -/
theorem decodeStart_some {s t : State} (h : decodeStart s = some t) :
    (schedule s.cfg s.key s.nr = none ∧ t = streamRaise .config (clearStream (accept s)))
    ∨ ∃ r, schedule s.cfg s.key s.nr = some r ∧
      ((∃ rest, s.env.answers = .error :: rest ∧ t = streamRaise .ioOpen (asked .inOpen rest (started r s)))
      ∨ (∃ rest, s.env.answers = .ok :: rest ∧ s.len.toNat % 3 ≠ 1
          ∧ t = streamRaise .format (inputOpened r rest s))
      ∨ (∃ rest, s.env.answers = .ok :: .error :: rest ∧ s.len.toNat % 3 = 1
          ∧ t = streamRaise .ioOpen (asked .outOpen rest (inputOpened r (.error :: rest) s)))
      ∨ (∃ rest, s.env.answers = .ok :: .ok :: rest ∧ s.len.toNat % 3 = 1
          ∧ t = goBusy .decHdr (setGtot (bothOpened r (.ok :: rest) rest s)))) := by
  obtain h | ⟨r, hr, h⟩ := streamStart_some h
  · exact .inl h
  · refine .inr ⟨r, hr, ?_⟩
    obtain ⟨rest, ha, rfl⟩ | ⟨rest, ha, h⟩ := openIn_some h
    · exact .inl ⟨rest, ha, rfl⟩
    · have ha : s.env.answers = .ok :: rest := ha
      have hl : (setInOpen (asked .inOpen rest (started r s))).len = s.len := rfl
      split at h
      · rename_i hm
        rw [hl] at hm
        obtain ⟨rest', ha', rfl⟩ | ⟨rest', ha', h⟩ := openOut_some h
        · have ha' : rest = .error :: rest' := ha'
          exact .inr (.inr (.inl ⟨rest', by rw [ha, ha'], hm, by rw [ha']; rfl⟩))
        · have ha' : rest = .ok :: rest' := ha'
          cases h
          exact .inr (.inr (.inr ⟨rest', by rw [ha, ha'], hm, by rw [ha']; rfl⟩))
      · rename_i hm
        rw [hl] at hm
        cases h
        exact .inr (.inl ⟨rest, ha, hm, rfl⟩)

/-- A failed schedule is a round count outside 1 to 9 (40_key_schedule.md R103). -/
theorem schedule_eq_none (cfg : Config) (K : Key) (n : Word) :
    schedule cfg K n = none ↔ n.toNat < 1 ∨ 9 < n.toNat := by
  unfold schedule; split <;> simp_all

theorem schedule_eq_some {cfg : Config} {K : Key} {n : Word} {r : List Byte} (h : schedule cfg K n = some r) :
    1 ≤ n.toNat ∧ n.toNat ≤ 9 ∧ r = ([0, 1, 2, 3, 4, 5, 6, 7, 8].take n.toNat).map (subkey cfg K) := by
  unfold schedule at h
  split at h
  · cases h
  · cases h; exact ⟨by omega, by omega, rfl⟩

end Sys2Proof.Machine
end

