-- ==== Sys2Proof/Laws/PerInstr.lean ====
section
/-! SUPPORT. What the encoding of every command looks like, command by command (30_encoding.md R70, R71): its opcode in bits [3:0],
the reserved bits [7:5] and [31:12] zero, and IDX zero wherever KSEL is. -/

namespace Sys2Proof.Laws.WordFields

/-- The fields of a command's word. -/
def Statement (i : Instr) : Prop :=
  fieldOp (encode i) = i.opcode ∧ fieldRsvLow (encode i) = 0 ∧ fieldRsvHigh (encode i) = 0
    ∧ (fieldKsel (encode i) = false → fieldIdx (encode i) = 0)

theorem nop : Statement .nop := by unfold Statement; decide
theorem keygen : Statement .keygen := by unfold Statement; decide
theorem expand : Statement .expand := by unfold Statement; decide
theorem confuse : Statement .confuse := by unfold Statement; decide
theorem feistel : Statement .feistel := by unfold Statement; decide
theorem feistelk (idx : BitVec 4) : Statement (.feistelk idx) := by unfold Statement; revert idx; decide
theorem round : Statement .round := by unfold Statement; decide
theorem roundk (idx : BitVec 4) : Statement (.roundk idx) := by unfold Statement; revert idx; decide
theorem hswap : Statement .hswap := by unfold Statement; decide
theorem encblk : Statement .encblk := by unfold Statement; decide
theorem decblk : Statement .decblk := by unfold Statement; decide
theorem padcnt : Statement .padcnt := by unfold Statement; decide
theorem encgrp : Statement .encgrp := by unfold Statement; decide
theorem decgrp : Statement .decgrp := by unfold Statement; decide
theorem encode : Statement .encode := by unfold Statement; decide
theorem decode : Statement .decode := by unfold Statement; decide
theorem clr : Statement .clr := by unfold Statement; decide

end Sys2Proof.Laws.WordFields
end

