-- ==== Sys2Proof/Laws/Step.lean ====
section
/-! SUPPORT. What one step can do, said once: the next event, a CORE step by phase, a host action. -/

namespace Sys2Proof.Machine

/-- A step is the host's next action, or a CORE step when the host has none left (20_memory.md R64). -/
theorem step_cases {s : State} {o : Result} (h : step s = o) :
    (s.env.actions = [] ∧ coreStep s = o)
    ∨ ∃ a rest, s.env.actions = a :: rest ∧ hostAct a { s with env := { s.env with actions := rest } } = o := by
  cases hact : s.env.actions with
  | nil => simp only [step, nextEvent, hact] at h; exact .inl ⟨rfl, h⟩
  | cons a rest => simp only [step, nextEvent, hact] at h; exact .inr ⟨a, rest, rfl, h⟩

/-- A CORE step by phase (10_state.md R37). -/
theorem coreStep_cases {s : State} {o : Result} (h : coreStep s = o) :
    (s.st.phase = .idle ∧ o = .next s)
    ∨ (s.st.phase = .encHdr ∧ stepEncHdr s = o)
    ∨ (s.st.phase = .encRead ∧ stepEncRead s = o)
    ∨ (s.st.phase = .encWrite ∧ stepEncWrite s = o)
    ∨ (s.st.phase = .decHdr ∧ stepDecHdr s = o)
    ∨ (s.st.phase = .decRead ∧ stepDecRead s = o)
    ∨ (s.st.phase = .decWrite ∧ stepDecWrite s = o) := by
  cases hp : s.st.phase <;> simp only [coreStep, hp] at h <;> simp_all

/-- The registers a busy CORE does not let the host write (10_state.md R43). -/
def guarded (i : Fin 64) : Bool :=
  match Reg.ofIndex i with
  | some .cmd | some .key | some .nr | some .din | some .sk | some .len => true
  | some .status | some .dout | some .buf | some .icnt | some .ocnt | some .gcnt | some .gtot | some (.rk _) | none => false

/-- A host write: ignored, dropped, a command issued, or an operand register set (10_state.md R21 to R29, R40, R43, R44). -/
theorem hostWrite_cases {i : Fin 64} {v : Word} {s : State} {o : Result} (h : hostWrite i v s = o) :
    (guarded i = false ∧ o = .next s)
    ∨ (guarded i = true ∧ s.st.busy = true ∧ o = .next (dropWrite s))
    ∨ (Reg.ofIndex i = some .cmd ∧ s.st.busy = false ∧ issue v s = o)
    ∨ (Reg.ofIndex i = some .key ∧ s.st.busy = false ∧ o = .next (writeKey v s))
    ∨ (Reg.ofIndex i = some .nr ∧ s.st.busy = false ∧ o = .next (writeNr v s))
    ∨ (Reg.ofIndex i = some .din ∧ s.st.busy = false ∧ o = .next (writeDin v s))
    ∨ (Reg.ofIndex i = some .sk ∧ s.st.busy = false ∧ o = .next (writeSk v s))
    ∨ (Reg.ofIndex i = some .len ∧ s.st.busy = false ∧ o = .next (writeLen v s)) := by
  cases hr : Reg.ofIndex i with
  | none => simp only [hostWrite, hr] at h; simp [guarded, hr, h]
  | some r => cases r <;> simp only [hostWrite, hr] at h <;> cases hb : s.st.busy <;> simp_all [guarded]

/-- Issuing a word: a command's meaning, or ILLEGAL (30_encoding.md R74). -/
theorem issue_cases {w : Word} {s : State} {o : Result} (h : issue w s = o) :
    (∃ i, Sys2Proof.decode w = .ok i ∧ exec i s = o)
    ∨ (∃ e, Sys2Proof.decode w = .error e ∧ o = .next (finish .illegal s)) := by
  cases hd : Sys2Proof.decode w with
  | ok i => simp only [issue, hd] at h; exact .inl ⟨i, rfl, h⟩
  | error e => simp only [issue, hd] at h; exact .inr ⟨e, rfl, h.symm⟩

/-- A result of at most 24 bits leaves DOUT[31:24] at 0 (10_state.md R20, R28). -/
theorem zextWord_lt {n : Nat} (v : BitVec n) (h : n ≤ 24) : (zextWord v).toNat < 2 ^ 24 := by
  have hv := v.isLt
  have hp : 2 ^ n ≤ 2 ^ 24 := Nat.pow_le_pow_right (by omega) h
  have hm : (zextWord v).toNat ≤ v.toNat := by
    simp only [zextWord, BitVec.toNat_setWidth]; exact Nat.mod_le _ _
  omega

/-- A padding count is 0, 1 or 2 (43_stream_codec.md R150). -/
theorem padcount_le (L : Nat) : padcount L ≤ 2 := by unfold padcount; omega

theorem padcount_word_lt (L : Nat) : (BitVec.ofNat 32 (padcount L)).toNat < 2 ^ 24 := by
  have := padcount_le L
  simp only [BitVec.toNat_ofNat]; omega

/-- Everything a command's meaning can do, command by command (30_encoding.md R71). -/
theorem exec_next {i : Instr} {s t : State} (h : exec i s = .next t) :
    (i = .nop ∧ t = finish .noError (accept s))
    ∨ (i = .keygen ∧ ((schedule s.cfg s.key s.nr = none ∧ t = finish .config (clearSchedule (accept s)))
        ∨ ∃ r, schedule s.cfg s.key s.nr = some r ∧ t = finish .noError (loadSchedule r s.nr (accept s))))
    ∨ (i.isStream = false ∧ i ≠ .clr ∧ ∃ v, v.toNat < 2 ^ 24 ∧ t = finishResult v (accept s))
    ∨ (i.isStream = false ∧ i ≠ .clr ∧ t = finish .noKeys (accept s))
    ∨ (i = .encode ∧ (encodeStart s = some t ∨ (encodeStart s = none ∧ t = reissue .encode s)))
    ∨ (i = .decode ∧ (decodeStart s = some t ∨ (decodeStart s = none ∧ t = reissue .decode s)))
    ∨ (i = .clr ∧ t = { s with st := { s.st with err := .noError, ovr := false, done := false } }) := by
  cases i with
  | nop => cases h; exact .inl ⟨rfl, rfl⟩
  | keygen =>
    refine .inr (.inl ⟨rfl, ?_⟩)
    cases hs : schedule s.cfg s.key s.nr with
    | none => simp [exec, execKeygen, hs] at h; exact .inl ⟨rfl, h.symm⟩
    | some r => simp [exec, execKeygen, hs] at h; exact .inr ⟨r, rfl, h.symm⟩
  | expand => cases h; exact .inr (.inr (.inl ⟨rfl, by simp, _, zextWord_lt _ (by omega), rfl⟩))
  | confuse => cases h; exact .inr (.inr (.inl ⟨rfl, by simp, _, zextWord_lt _ (by omega), rfl⟩))
  | feistel => cases h; exact .inr (.inr (.inl ⟨rfl, by simp, _, zextWord_lt _ (by omega), rfl⟩))
  | round => cases h; exact .inr (.inr (.inl ⟨rfl, by simp, _, zextWord_lt _ (by omega), rfl⟩))
  | hswap => cases h; exact .inr (.inr (.inl ⟨rfl, by simp, _, zextWord_lt _ (by omega), rfl⟩))
  | padcnt => cases h; exact .inr (.inr (.inl ⟨rfl, by simp, _, padcount_word_lt _, rfl⟩))
  | feistelk idx =>
    have h : withIndexedKey idx (accept s) (fun k => zextWord (feistel s.cfg (dinHalf s) k)) = .next t := h
    obtain ⟨-, ht⟩ | ⟨-, ht⟩ := withIndexedKey_next h
    · exact .inr (.inr (.inl ⟨rfl, by simp, _, zextWord_lt _ (by omega), ht⟩))
    · exact .inr (.inr (.inr (.inl ⟨rfl, by simp, ht⟩)))
  | roundk idx =>
    have h : withIndexedKey idx (accept s) (fun k => zextWord (round s.cfg (dinBlock s) k)) = .next t := h
    obtain ⟨-, ht⟩ | ⟨-, ht⟩ := withIndexedKey_next h
    · exact .inr (.inr (.inl ⟨rfl, by simp, _, zextWord_lt _ (by omega), ht⟩))
    · exact .inr (.inr (.inr (.inl ⟨rfl, by simp, ht⟩)))
  | encblk =>
    obtain ⟨-, ht⟩ | ⟨-, ht⟩ := withSchedule_next h
    · exact .inr (.inr (.inl ⟨rfl, by simp, _, zextWord_lt _ (by omega), ht⟩))
    · exact .inr (.inr (.inr (.inl ⟨rfl, by simp, ht⟩)))
  | decblk =>
    obtain ⟨-, ht⟩ | ⟨-, ht⟩ := withSchedule_next h
    · exact .inr (.inr (.inl ⟨rfl, by simp, _, zextWord_lt _ (by omega), ht⟩))
    · exact .inr (.inr (.inr (.inl ⟨rfl, by simp, ht⟩)))
  | encgrp =>
    obtain ⟨-, ht⟩ | ⟨-, ht⟩ := withSchedule_next h
    · exact .inr (.inr (.inl ⟨rfl, by simp, _, zextWord_lt _ (by omega), ht⟩))
    · exact .inr (.inr (.inr (.inl ⟨rfl, by simp, ht⟩)))
  | decgrp =>
    obtain ⟨-, ht⟩ | ⟨-, ht⟩ := withSchedule_next h
    · exact .inr (.inr (.inl ⟨rfl, by simp, _, zextWord_lt _ (by omega), ht⟩))
    · exact .inr (.inr (.inr (.inl ⟨rfl, by simp, ht⟩)))
  | encode =>
    refine .inr (.inr (.inr (.inr (.inl ⟨rfl, ?_⟩))))
    cases he : encodeStart s with
    | none => simp only [exec, execEncode, he, Host.Outcome.next.injEq] at h; exact .inr ⟨rfl, h.symm⟩
    | some u => simp only [exec, execEncode, he, Host.Outcome.next.injEq] at h; exact .inl (by rw [h])
  | decode =>
    refine .inr (.inr (.inr (.inr (.inr (.inl ⟨rfl, ?_⟩)))))
    cases he : decodeStart s with
    | none => simp only [exec, execDecode, he, Host.Outcome.next.injEq] at h; exact .inr ⟨rfl, h.symm⟩
    | some u => simp only [exec, execDecode, he, Host.Outcome.next.injEq] at h; exact .inl (by rw [h])
  | clr => cases h; exact .inr (.inr (.inr (.inr (.inr (.inr ⟨rfl, rfl⟩)))))

end Sys2Proof.Machine
end

