-- ==== Sys2Proof/Tests/Slice0.lean ====
section
/-! SUPPORT. Tests of the model's author, and a witness for the hypotheses of every statement that has some. Expected values come from
95_test_vectors.md (L2.1 to L2.14, P1 to P6) or from the encodings of 30_encoding.md written out bit by bit. -/

namespace Sys2Proof.Tests

open Sys2Proof Sys2Proof.Machine

/-! ## Helpers -/

/-- From reset: these operands, no schedule. -/
def withOperands (key : Key) (nr din : Word) (sk : Byte) (len : Word) : State :=
  { State.reset with key := key, nr := nr, din := din, sk := sk, len := len }

/-- From reset: the schedule of KEY and NR loaded, and DIN. -/
def loaded (key : Key) (nr din : Word) : State :=
  match execKeygen (withOperands key nr din 0 0) with
  | .next t => t
  | _ => State.reset

/-- From reset: KEY = 0x1C0, NR = 2, an input stream with LEN set to its length, and the host's draws. -/
def withFile (input : List Byte) (answers : List Answer) : State :=
  { withOperands 0x1C0 2 0 0 (BitVec.ofNat 32 input.length) with
    env := { Env.start with input := input, answers := answers } }

/-- A stream command in the phase p, both ports open, its schedule loaded. -/
def inPhase (p : Phase) (input : List Byte) (answers : List Answer) : State :=
  let s := loaded 0x1C0 2 0
  { s with
    len := BitVec.ofNat 32 input.length
    st := { s.st with busy := true, done := false, phase := p, inOpen := true, outOpen := true }
    env := { Env.start with input := input, answers := answers } }

/-- A property of the state after a step that answers next. -/
def onNext (r : Result) (p : State → Bool) : Bool :=
  match r with
  | .next t => p t
  | _ => false

/-- DOUT and STATUS after a command. -/
def gives (i : Instr) (s : State) (dout status : Word) : Bool :=
  onNext (exec i s) fun t => decide (t.dout = dout) && decide (statusWord t.st = status)

/-- Only STATUS. -/
def leavesStatus (i : Instr) (s : State) (status : Word) : Bool :=
  onNext (exec i s) fun t => decide (statusWord t.st = status)

/-- A property of the state that k steps lead to. -/
def after (k : Nat) (s : State) (p : State → Bool) : Bool := onNext (Host.Core.run Sys2Proof.core k s) p

theorem onNext_exists {r : Result} {p : State → Bool} (h : onNext r p = true) : ∃ t, r = .next t ∧ p t = true := by
  cases r with
  | next t => exact ⟨t, rfl, h⟩
  | fault f => cases h
  | refused f => cases h

theorem after_runsTo {k : Nat} {s : State} {p : State → Bool} (h : after k s p = true) : ∃ t, RunsTo k s t ∧ p t = true :=
  onNext_exists h

/-- The run is over and without error. -/
def endedWell (t : State) : Bool := decide (t.env.actions = []) && decide (t.st.busy = false) && decide (t.st.err = .noError)

theorem endedWell_iff {t : State} (h : endedWell t = true) : Ended t ∧ t.st.err = .noError := by
  simp only [endedWell, Bool.and_eq_true, decide_eq_true_eq] at h
  exact ⟨⟨h.1.1, h.1.2⟩, h.2⟩

/-! ## Well-formedness and decoding -/

theorem test_feistelk_nine_is_ill_formed : (Instr.feistelk 9).wellFormed = false := by decide
theorem test_roundk_fifteen_is_ill_formed : (Instr.roundk 15).wellFormed = false := by decide
theorem test_index_eight_is_well_formed : (Instr.feistelk 8).wellFormed = true ∧ (Instr.roundk 8).wellFormed = true := by decide

theorem test_decode_nop : decode 0b00000000000000000000000000000000#32 = .ok .nop := by decide
theorem test_decode_keygen : decode 0b00000000000000000000000000000001#32 = .ok .keygen := by decide
theorem test_decode_expand : decode 0b00000000000000000000000000000010#32 = .ok .expand := by decide
theorem test_decode_confuse : decode 0b00000000000000000000000000000011#32 = .ok .confuse := by decide
theorem test_decode_feistel : decode 0b00000000000000000000000000000100#32 = .ok .feistel := by decide
theorem test_decode_feistelk : decode 0b00000000000000000000001100010100#32 = .ok (.feistelk 3) := by decide
theorem test_decode_round : decode 0b00000000000000000000000000000101#32 = .ok .round := by decide
theorem test_decode_roundk : decode 0b00000000000000000000010100010101#32 = .ok (.roundk 5) := by decide
theorem test_decode_hswap : decode 0b00000000000000000000000000000110#32 = .ok .hswap := by decide
theorem test_decode_encblk : decode 0b00000000000000000000000000000111#32 = .ok .encblk := by decide
theorem test_decode_decblk : decode 0b00000000000000000000000000001000#32 = .ok .decblk := by decide
theorem test_decode_padcnt : decode 0b00000000000000000000000000001001#32 = .ok .padcnt := by decide
theorem test_decode_encgrp : decode 0b00000000000000000000000000001010#32 = .ok .encgrp := by decide
theorem test_decode_decgrp : decode 0b00000000000000000000000000001011#32 = .ok .decgrp := by decide
theorem test_decode_encode : decode 0b00000000000000000000000000001100#32 = .ok .encode := by decide
theorem test_decode_decode : decode 0b00000000000000000000000000001101#32 = .ok .decode := by decide
theorem test_decode_clr : decode 0b00000000000000000000000000001110#32 = .ok .clr := by decide

/-- L2.13's ILLEGAL words, and IDX = 15 with KSEL = 1. -/
theorem test_illegal_words :
    decode 0x0000000F = .error .reservedOpcode ∧ decode 0x0000001F = .error .reservedOpcode
    ∧ decode 0x00000010 = .error .reservedBits ∧ decode 0x00000011 = .error .reservedBits
    ∧ decode 0x00000020 = .error .reservedBits ∧ decode 0x00000104 = .error .idxWithoutKsel
    ∧ decode 0x00000914 = .error .idxAboveEight ∧ decode 0x00001005 = .error .reservedBits
    ∧ decode 0x80000001 = .error .reservedBits ∧ decode 0x00000F15 = .error .idxAboveEight := by decide

/-- L2.13: an ILLEGAL word from reset gives STATUS 0x00000072. -/
theorem test_illegal_status : onNext (step (State.reset.withFetchWord 32 0xF)) (fun t => statusWord t.st == 0x00000072) = true := by
  decide

/-! ## The commands -/

/-- L2.1. -/
theorem test_keygen : onNext (exec .keygen (withOperands 0x099 9 0 0 0)) (fun t =>
    decide (t.rk = #v[0x4C, 0x99, 0x32, 0x65, 0xCA, 0x94, 0x29, 0x53, 0xA6]) && decide (statusWord t.st = 0x00000906)) = true := by
  decide
theorem test_keygen_config : leavesStatus .keygen (withOperands 0x1C0 10 0 0 0) 0x00000012 = true := by decide
/-- L2.2. -/
theorem test_expand : gives .expand (withOperands 0 0 0x15 0 0) 0x69 0x00000002 = true := by decide
theorem test_expand_upper_bits : gives .expand (withOperands 0 0 0xFFFFFFC0 0 0) 0x00 0x00000002 = true := by decide
/-- L2.3. -/
theorem test_confuse : gives .confuse (withOperands 0 0 0xA5 0 0) 0x31 0x00000002 = true := by decide
theorem test_confuse_low : gives .confuse (withOperands 0 0 0x01 0 0) 0x28 0x00000002 = true := by decide
/-- L2.4. -/
theorem test_feistel : gives .feistel (withOperands 0 0 0x15 0xAA 0) 0x05 0x00000002 = true := by decide
theorem test_feistelk : gives (.feistelk 3) (loaded 0x099 9 0x26) 0x04 0x00000906 = true := by decide
theorem test_feistelk_nokeys : gives (.feistelk 2) (loaded 0x1C0 2 0x26) 0 0x00000266 = true := by decide
/-- L2.5, P2. -/
theorem test_round : gives .round (withOperands 0 0 0xABC 0xFF 0) 0xF07 0x00000002 = true := by decide
theorem test_roundk : gives (.roundk 1) (loaded 0x1C0 2 0x02C) 0xB06 0x00000206 = true := by decide
theorem test_roundk_nokeys : gives (.roundk 8) (loaded 0x1C0 2 0x02C) 0 0x00000266 = true := by decide
/-- L2.6. -/
theorem test_hswap : gives .hswap (withOperands 0 0 0xABC 0 0) 0xF2A 0x00000002 = true := by decide
/-- L2.7. -/
theorem test_encblk : gives .encblk (loaded 0x155 4 0x123) 0x251 0x00000406 = true := by decide
theorem test_encblk_nokeys : gives .encblk (withOperands 0 0 0x123 0 0) 0 0x00000062 = true := by decide
theorem test_decblk : gives .decblk (loaded 0x155 4 0x123) 0xEDC 0x00000406 = true := by decide
theorem test_decblk_nine : gives .decblk (loaded 0x099 9 0xFFF) 0x468 0x00000906 = true := by decide
/-- L2.8. -/
theorem test_padcnt : gives .padcnt (withOperands 0 0 0 0 0xFFFFFFFE) 1 0x00000002 = true := by decide
/-- L2.9. -/
theorem test_encgrp : gives .encgrp (loaded 0x099 9 0x123456) 0x2A3ED6 0x00000906 = true := by decide
theorem test_decgrp : gives .decgrp (loaded 0x099 9 0x2A3ED6) 0x123456 0x00000906 = true := by decide
theorem test_decgrp_zero : gives .decgrp (loaded 0x1C0 2 0) 0x144144 0x00000206 = true := by decide
/-- P1, L2.12. -/
theorem test_encode_start : leavesStatus .encode (withFile [1, 2, 3] [.ok, .ok]) 0x00301205 = true := by decide
theorem test_encode_in_fails : leavesStatus .encode (withFile [1, 2, 3] [.error]) 0x00000032 = true := by decide
/-- P1: the first ENC_READ. -/
theorem test_enc_read : onNext (coreStep (inPhase .encRead [1, 2, 3] [.ok])) (fun t =>
    decide (t.buf = 0xB8C760) && decide (t.icnt = 3) && decide (statusWord t.st = 0x00303205)) = true := by decide
/-- P3, L2.11. -/
theorem test_decode_start : leavesStatus .decode (withFile [0, 0x60, 0xC7, 0xB8] [.ok, .ok]) 0x00304205 = true := by decide
theorem test_decode_length : leavesStatus .decode (withFile [0, 1, 2] [.ok]) 0x00000022 = true := by decide
/-- P4: DEC_HDR with p = 2, and DEC_READ of the last group (WLIM = 1). -/
theorem test_dec_hdr : onNext (coreStep { inPhase .decHdr [2, 0x60, 0xC7, 0xB8, 0xC5, 0xCB, 0x1A] [.ok] with gtot := 2 })
    (fun t => decide (t.icnt = 1) && decide (statusWord t.st = 0x00325205)) = true := by decide
theorem test_dec_read_last : onNext (coreStep
      { inPhase .decRead [2, 0x60, 0xC7, 0xB8, 0xC5, 0xCB, 0x1A] [.ok] with
        gtot := 2, gcnt := 1, icnt := 4, st := { (inPhase .decRead [] []).st with pad := 2 } })
    (fun t => decide (t.buf = 0x000004) && decide (t.wlim = 1) && decide (statusWord t.st = 0x00326205)) = true := by decide
/-- L2.14. -/
theorem test_nop_after_error :
    leavesStatus .nop { State.reset with st := { Status.reset with done := true, err := .format } } 0x00000002 = true := by decide
theorem test_clr_keeps_schedule : leavesStatus .clr
    { State.reset with st := { Status.reset with done := true, rkv := true, ovr := true, rkn := 2 } } 0x00000204 = true := by decide
theorem test_write_while_busy : onNext (step { (inPhase .encWrite [1, 2, 3] []) with
      env := { Env.start with actions := [.write 2 0x155] } })
    (fun t => decide (t.key = 0x1C0) && decide (statusWord t.st = 0x0030320D)) = true := by decide

/-! ## Witnesses: concrete states that meet the hypotheses of the statements, clause by clause, at boundary values -/

/-- A running command that has overrun. -/
def overrun : State := { inPhase .encRead [1] [] with st := { (inPhase .encRead [1] []).st with ovr := true } }

/-- These host actions to come. -/
def doing (acts : List HostAction) (s : State) : State := s.awaiting acts

theorem witness_CmdDecodeAndDispatch :
    State.reset.st.busy = false ∧ decode 0x0000000F = .error .reservedOpcode ∧ decode 0x00000814 = .ok (.feistelk 8)
    ∧ decode 0x00000914 = .error .idxAboveEight ∧ decode 0xFFFFFFFF = .error .reservedOpcode := by decide

theorem witness_DecodeEncodeAgree :
    (Instr.roundk 8).wellFormed = true ∧ decode 0x00000814 = .ok (.feistelk 8) := by decide

theorem witness_CmdWriteIssuesCommand :
    State.reset.st.busy = false ∧ decode 0x0000000C = .ok .encode ∧ decode 0x00000010 = .error .reservedBits
    ∧ (inPhase .encHdr [] []).st.busy = true := by decide

theorem witness_StepTakesNextEvent :
    State.reset.st.busy = false ∧ decodeTableWord 32 (0x00000815 : Word).toNat = some (.roundk 8)
    ∧ State.reset.env.actions = [] ∧ State.reset.st.phase = .idle := by decide

theorem witness_BusyWritesAreDropped :
    overrun.st.busy = true ∧ overrun.st.ovr = true
    ∧ onNext (step (doing [.reset] overrun)) (fun t => !t.st.ovr) = true
    ∧ onNext (step (doing [.write 0 0x0000000E] { State.reset with st := { Status.reset with ovr := true } })) (fun t => !t.st.ovr) = true
    ∧ onNext (step (doing [.write 2 0x155] (inPhase .encWrite [1] []))) (fun t => t.st.ovr) = true
    ∧ onNext (step (doing [.write 7 1] (inPhase .encWrite [1] []))) (fun t => t.st.ovr) = true
    ∧ onNext (step (doing [.poll] overrun)) (fun t => t.st.ovr) = true := by decide

theorem witness_ReadsAndIgnoredWrites :
    ((8 : Fin 64) ≤ 8 ∧ (8 : Fin 64) ≤ 63 ∧ (13 : Fin 64) ≤ 13 ∧ (15 : Fin 64) ≤ 15 ∧ (25 : Fin 64) ≤ 25)
    ∧ (0x1FF : Word).extractLsb' 0 9 = (0xFFFFFFFF : Word).extractLsb' 0 9
    ∧ (0x0FF : Word).extractLsb' 0 8 = (0xFFFFFFFF : Word).extractLsb' 0 8 := by decide

theorem witness_AcceptedOperandWrites : State.reset.st.busy = false ∧ (loaded 0x1C0 2 0).st.busy = false := by decide

/-- NR = 0, 10 (CONFIG), 1 and 9 (a schedule), and the corner and example keys. -/
theorem witness_KeygenResult :
    ((withOperands 0 0 0 0 0).nr.toNat = 0 ∧ 9 < (withOperands 0 10 0 0 0).nr.toNat)
    ∧ (1 ≤ (withOperands 0 1 0 0 0).nr.toNat ∧ (withOperands 0 9 0 0 0).nr.toNat ≤ 9)
    ∧ ((withOperands 0 1 0 0 0).key = 0 ∧ (withOperands 0x1FF 9 0 0 0).key = 0x1FF)
    ∧ State.reset.cfg.ksWindow = defaultKsWindow ∧ (withOperands 0x1C0 2 0 0 0).nr = 2
    ∧ onNext (exec .keygen (loaded 0x1C0 2 0)) (fun t => t.st.rkv) = true ∧ (inPhase .encHdr [] []).st.busy = true := by
  decide

theorem witness_DefaultWindowThreeForms : defaultConfig.ksWindow = defaultKsWindow := rfl

theorem witness_ExpandResult :
    (withOperands 0 0 0xFFFFFFC0 0 0).din.extractLsb' 0 6 = 0 ∧ (withOperands 0 0 0x3F 0 0).din.extractLsb' 0 6 = 0x3F
    ∧ (withOperands 0 0 0x26 0 0).din = 0x26 := by decide

theorem witness_ConfuseResult :
    State.reset.cfg.sbox1 = defaultSbox1 ∧ State.reset.cfg.sbox2 = defaultSbox2 ∧ (withOperands 0 0 0xCF 0 0).din = 0xCF
    ∧ (withOperands 0 0 0xFFFFFF00 0 0).din.extractLsb' 0 8 = 0 := by decide

theorem witness_FeistelResult :
    (withOperands 0 0 0x26 0 0).sk = 0
    ∧ (withOperands 0 0 0x26 0xAA 0).sk = expand ((withOperands 0 0 0x26 0xAA 0).din.extractLsb' 0 6)
    ∧ (withOperands 0 0 0x26 0x65 0).cfg.sbox1 = defaultSbox1 ∧ (withOperands 0 0 0x26 0x65 0).sk = 0x65 := by decide

/-- The last loaded index, the first one that is not, and the example's schedule. -/
theorem witness_FeistelkResult :
    ((1 : Fin 9).val < (loaded 0x1C0 2 0).st.rkn.toNat) ∧ (loaded 0x1C0 2 0).st.rkn.toNat ≤ (2 : BitVec 4).toNat
    ∧ ((8 : Fin 9).val < (loaded 0x099 9 0x26).st.rkn.toNat) ∧ State.reset.st.rkn.toNat ≤ (0 : BitVec 4).toNat
    ∧ 8 < (9 : BitVec 4).toNat ∧ 8 < (15 : BitVec 4).toNat
    ∧ onNext (exec .keygen (withOperands 0x099 9 0 0 0)) (fun t => decide (t.st.rkn = 9)) = true := by decide

theorem witness_RoundResult :
    (withOperands 0 0 0x726 0x65 0).din = 0x726 ∧ (withOperands 0 0 0x726 0x65 0).sk = 0x65
    ∧ State.reset.cfg.sbox1 = defaultSbox1 ∧ State.reset.cfg.sbox2 = defaultSbox2 := by decide

theorem witness_RoundkResult :
    ((1 : Fin 9).val < (loaded 0x1C0 2 0).st.rkn.toNat) ∧ (loaded 0x1C0 2 0).st.rkn.toNat ≤ (2 : BitVec 4).toNat := by decide

theorem witness_HswapResult :
    (withOperands 0 0 0x041 0 0).din.extractLsb' 0 6 = (withOperands 0 0 0x041 0 0).din.extractLsb' 6 6
    ∧ (withOperands 0 0 0x123 0 0).din = 0x123 ∧ (withOperands 0 0 0xFC0 0 0).din = 0xFC0 := by decide

/-- Also of DecryptInvertsEncrypt, GroupCommandResults and DecgrpInvertsEncgrp. -/
theorem witness_BlockCommandResults : (loaded 0x1C0 2 0x123).st.rkv = true ∧ State.reset.st.rkv = false := by decide

theorem witness_PadcntResult :
    (0xFFFFFFFF : Word).toNat % 3 = 0 ∧ (4 : Word).toNat % 3 = 1 ∧ (0xFFFFFFFE : Word).toNat % 3 = 2 ∧ State.reset.len = 0 := by decide

theorem idle_withFile (bs : List Byte) (as : List Answer) : Idle (withFile bs as) := ⟨rfl, rfl, rfl⟩

theorem witness_StreamStartConfigError :
    Idle (withOperands 0 0 0 0 0) ∧ (withOperands 0 0 0 0 0).nr.toNat = 0 ∧ 9 < (withOperands 0 10 0 0 0).nr.toNat :=
  ⟨⟨rfl, rfl, rfl⟩, by decide, by decide⟩

/-- Also of DecodeStart and DecodeLengthError: each prefix of draws, and LEN = 1 (a right length) and 0 (a wrong one). -/
theorem witness_EncodeStart :
    Idle (withFile [1] [.ok, .ok]) ∧ schedule defaultConfig 0x1C0 2 = some [0xE0, 0xC0]
    ∧ (withFile [1] [.ok, .ok]).env.answers = .ok :: .ok :: [] ∧ (withFile [1] [.error]).env.answers = .error :: []
    ∧ (withFile [1] [.ok, .error]).env.answers = .ok :: .error :: []
    ∧ (withFile [1] [.ok, .ok]).len.toNat % 3 = 1 ∧ (withFile [] [.ok]).len.toNat % 3 ≠ 1 :=
  ⟨idle_withFile _ _, by decide, rfl, rfl, rfl, by decide, by decide⟩

theorem witness_EncodeWriteSteps :
    (inPhase .encHdr [1] [.ok]).st.phase = .encHdr ∧ (inPhase .encHdr [1] [.ok]).env.answers = [.ok]
    ∧ (inPhase .encWrite [1] [.error]).st.phase = .encWrite ∧ (inPhase .encWrite [1] [.error]).env.answers = [.error] := by decide

/-- A group to read, and the end of the input (LEN = ICNT = 0). -/
theorem witness_EncodeReadStep :
    (inPhase .encRead [1] [.ok]).st.phase = .encRead
    ∧ (inPhase .encRead [1] [.ok]).icnt.toNat < (inPhase .encRead [1] [.ok]).len.toNat
    ∧ (inPhase .encRead [1] [.ok]).env.input.length = (inPhase .encRead [1] [.ok]).len.toNat
    ∧ (inPhase .encRead [] [.ok]).env.input.length = (inPhase .encRead [] [.ok]).len.toNat
    ∧ (inPhase .encRead [] [.ok]).len.toNat ≤ (inPhase .encRead [] [.ok]).icnt.toNat
    ∧ (inPhase .encRead [] [.error]).env.answers = [.error] := by decide

/-- A padding byte of 2 with a group, of 3, and of 0 with none. -/
theorem witness_DecodeHeaderStep :
    (inPhase .decHdr [2, 0, 0, 0] [.ok]).st.phase = .decHdr
    ∧ (inPhase .decHdr [2, 0, 0, 0] [.ok]).env.input.length = (inPhase .decHdr [2, 0, 0, 0] [.ok]).len.toNat
    ∧ (inPhase .decHdr [2, 0, 0, 0] [.ok]).env.input.drop 0 = 2 :: [0, 0, 0] ∧ (2 : Byte).toNat ≤ 2
    ∧ ({ inPhase .decHdr [2, 0, 0, 0] [.ok] with gtot := 1 }).gtot ≠ 0
    ∧ 2 < (3 : Byte).toNat ∧ (inPhase .decHdr [0] [.ok]).gtot = 0
    ∧ (inPhase .decHdr [0] [.ok]).env.input.drop 0 = 0 :: [] := by decide

/-- A group to read; the last byte of the last group (BIDX + 1 = WLIM, GCNT + 1 = GTOT), and a byte before it. -/
theorem witness_DecodeGroupSteps :
    ((inPhase .decRead [0, 0, 0, 0] [.ok]).st.phase = .decRead
      ∧ (inPhase .decRead [0, 0, 0, 0] [.ok]).env.input.length = (inPhase .decRead [0, 0, 0, 0] [.ok]).len.toNat
      ∧ (inPhase .decRead [0, 0, 0, 0] [.ok]).icnt.toNat + 3 ≤ (inPhase .decRead [0, 0, 0, 0] [.ok]).len.toNat)
    ∧ ((inPhase .decWrite [] [.ok]).st.phase = .decWrite
      ∧ (inPhase .decWrite [] [.ok]).st.bidx + 1 = ({ inPhase .decWrite [] [.ok] with wlim := 1, gtot := 1 }).wlim
      ∧ (inPhase .decWrite [] [.ok]).gcnt + 1 = ({ inPhase .decWrite [] [.ok] with wlim := 1, gtot := 1 }).gtot)
    ∧ (inPhase .decWrite [] [.ok]).st.bidx + 1 ≠ (inPhase .decWrite [] [.ok]).wlim := by decide

/-- Each kind of exit: the end of the input, an error, a bad and a lone padding byte, the last byte of a DECODE, and a start step
that fails. -/
theorem witness_StreamExitClosesAndFrees :
    onNext (step (inPhase .encRead [] [.ok])) (fun t => !t.st.busy) = true
    ∧ onNext (step (inPhase .encHdr [] [.error])) (fun t => !t.st.busy) = true
    ∧ onNext (step (inPhase .decHdr [3] [.ok])) (fun t => !t.st.busy && decide (t.st.err = .format)) = true
    ∧ onNext (step (inPhase .decHdr [0] [.ok])) (fun t => !t.st.busy && decide (t.st.err = .noError)) = true
    ∧ onNext (step { inPhase .decWrite [] [.ok] with wlim := 1, gtot := 1 }) (fun t => !t.st.busy && decide (t.gcnt = 1)) = true
    ∧ onNext (exec .decode (withFile [] [.ok])) (fun t => !t.st.busy && decide (t.env.actions = [])) = true
    ∧ (inPhase .encRead [] [.ok]).st.busy = true ∧ (inPhase .encRead [] [.ok]).env.actions = [] := by decide

theorem witness_ErrorAnswerEndsCommand :
    (inPhase .decRead [] [.error]).st.phase ≠ .idle ∧ (inPhase .decRead [] [.error]).env.answers = [.error]
    ∧ (withFile [] [.error]).env.answers = [.error] ∧ (withFile [1] [.ok, .error]).env.answers = [.ok, .error]
    ∧ (withFile [1] [.ok, .error]).len.toNat % 3 = 1 ∧ 1 ≤ (withFile [] [.error]).nr.toNat ∧ (withFile [] [.error]).nr.toNat ≤ 9 := by decide

theorem witness_UnansweredRequestHoldsCore :
    (inPhase .encHdr [] []).env.answers = [] ∧ (withFile [] []).st.busy = false
    ∧ (withFile [1] [.ok]).env.answers = [.ok] ∧ (withFile [1] [.ok]).len.toNat % 3 = 1
    ∧ ((withFile [] []).issuing .encode).env.actions = [.write 0 (encode .encode)] ∧ (withFile [] []).env.answers = [] := by decide

/-- An input stream one byte short of LEN, and one a byte too long, in each reading phase. -/
theorem witness_HostMisdeedsAreRefused :
    (∀ p : Phase, let s := { inPhase p [1, 2] [.ok] with len := 3 };
      s.env.input.length ≠ s.len.toNat ∧ s.env.answers = [.ok] ∧ s.st.phase = p)
    ∧ (∀ p : Phase, let s := { inPhase p [1, 2] [.ok] with len := 1 };
      s.env.input.length ≠ s.len.toNat ∧ s.env.answers = [.ok] ∧ s.st.phase = p)
    ∧ (inPhase .encRead [] []).st.busy = true := by
  refine ⟨fun p => ?_, fun p => ?_, by decide⟩ <;> exact ⟨by cases p <;> decide, rfl, rfl⟩

/-- R236: an input stream one byte longer than LEN is refused at the read. -/
theorem test_longer_input_refused :
    (match coreStep { inPhase .encRead [1, 2] [.ok] with len := 1 } with
      | .refused r => decide (r = .inputStreamLength)
      | _ => false) = true := by decide

/-- R153: a short group, its missing bytes 0. -/
theorem witness_UnpackZeroPadsGroup : ([0x41, 0x42] : List Byte).length ≤ 3 ∧ unpack [0x41, 0x42] = 0x004241 := by decide

/-- The three things a step can do to the output stream, and the host's supply of an input stream. -/
theorem witness_StreamsAndParametersFrame :
    onNext (step State.reset) (fun t => t.env.outputTrusted && decide (t.env.output = [])) = true
    ∧ onNext (step (inPhase .encHdr [] [.ok])) (fun t => t.env.outputTrusted && decide (t.env.output = [0])) = true
    ∧ onNext (step ((withFile [] [.ok, .ok]).issuing .encode)) (fun t => t.env.outputTrusted && t.st.busy) = true
    ∧ onNext (step (doing [.supplyInput [7]] State.reset)) (fun t => decide (t.env.input = [7])) = true := by decide

/-- An ENCODE of one byte runs to its end: CMD, ENC_HDR, ENC_READ, three ENC_WRITE, ENC_READ. -/
theorem witness_EncodeOutput :
    let s := withFile [0x41] (List.replicate 8 .ok)
    Idle s ∧ schedule s.cfg s.key s.nr = some [0xE0, 0xC0] ∧ s.env.input.length = s.len.toNat
      ∧ ∃ t, RunsTo 7 (s.issuing .encode) t ∧ Ended t ∧ t.st.err = .noError := by
  refine ⟨⟨rfl, rfl, rfl⟩, by decide, by decide, ?_⟩
  obtain ⟨t, hr, ht⟩ := after_runsTo (show after 7 ((withFile [0x41] (List.replicate 8 .ok)).issuing .encode) endedWell = true by decide)
  exact ⟨t, hr, endedWell_iff ht⟩

/-- A DECODE of the L2.11 row 02 29 C8 1A runs to its end. -/
theorem witness_DecodeOutput :
    let s := withFile [0x02, 0x29, 0xC8, 0x1A] (List.replicate 5 .ok)
    Idle s ∧ schedule s.cfg s.key s.nr = some [0xE0, 0xC0] ∧ s.env.input.length = s.len.toNat
      ∧ ∃ t, RunsTo 4 (s.issuing .decode) t ∧ Ended t ∧ t.st.err = .noError := by
  refine ⟨⟨rfl, rfl, rfl⟩, by decide, by decide, ?_⟩
  obtain ⟨t, hr, ht⟩ := after_runsTo
    (show after 4 ((withFile [0x02, 0x29, 0xC8, 0x1A] (List.replicate 5 .ok)).issuing .decode) endedWell = true by decide)
  exact ⟨t, hr, endedWell_iff ht⟩

/-- The state an ENCODE of one byte leaves, with its output made the input of a DECODE. -/
def handOver (t : State) (answers : List Answer) : State :=
  { t with
    len := BitVec.ofNat 32 t.env.output.length
    env := { t.env with input := t.env.output, answers := answers } }

theorem witness_StreamRoundTrip :
    let s := withFile [0x41] (List.replicate 8 .ok)
    Idle s ∧ s.env.input.length = s.len.toNat
      ∧ ∃ t, RunsTo 7 (s.issuing .encode) t ∧ Ended t ∧ t.st.err = .noError ∧ t.env.output.length < 2 ^ 32
        ∧ ∃ v, RunsTo 4 ((handOver t (List.replicate 5 .ok)).issuing .decode) v ∧ Ended v ∧ v.st.err = .noError := by
  refine ⟨⟨rfl, rfl, rfl⟩, by decide, ?_⟩
  obtain ⟨t, hr, ht⟩ := after_runsTo (show after 7 ((withFile [0x41] (List.replicate 8 .ok)).issuing .encode)
    (fun t => endedWell t && decide (t.env.output.length < 2 ^ 32)
      && after 4 ((handOver t (List.replicate 5 .ok)).issuing .decode) endedWell) = true by decide)
  simp only [Bool.and_eq_true, decide_eq_true_eq] at ht
  obtain ⟨v, hv, hw⟩ := after_runsTo ht.2
  exact ⟨t, hr, (endedWell_iff ht.1.1).1, (endedWell_iff ht.1.1).2, ht.1.2, v, hv, endedWell_iff hw⟩

/-- LEN = 0 (four draws) and LEN = 1 (eight). -/
theorem witness_EncodeStepCount :
    (let s := withFile [] (List.replicate 4 .ok);
      Idle s ∧ 1 ≤ s.nr.toNat ∧ s.nr.toNat ≤ 9 ∧ s.env.input.length = s.len.toNat
        ∧ (∀ a ∈ s.env.answers, a = Answer.ok) ∧ 4 + 4 * ((s.len.toNat + 2) / 3) ≤ s.env.answers.length)
    ∧ (let s := withFile [0x41] (List.replicate 8 .ok);
      Idle s ∧ s.env.input.length = s.len.toNat ∧ (∀ a ∈ s.env.answers, a = Answer.ok)
        ∧ 4 + 4 * ((s.len.toNat + 2) / 3) ≤ s.env.answers.length) :=
  ⟨⟨⟨rfl, rfl, rfl⟩, by decide⟩, ⟨⟨rfl, rfl, rfl⟩, by decide⟩⟩

/-- G = 0 with p = 0, and G = 1 with p = 2. -/
theorem witness_DecodeStepCount :
    (let s := withFile [0x00] (List.replicate 3 .ok);
      Idle s ∧ 1 ≤ s.nr.toNat ∧ s.nr.toNat ≤ 9 ∧ s.env.input = 0x00 :: [] ∧ s.env.input.length = s.len.toNat
        ∧ (∀ a ∈ s.env.answers, a = Answer.ok) ∧ 3 + 4 * 0 ≤ s.env.answers.length)
    ∧ (let s := withFile [0x02, 0x29, 0xC8, 0x1A] (List.replicate 7 .ok);
      Idle s ∧ s.env.input = 0x02 :: [0x29, 0xC8, 0x1A] ∧ s.env.input.length = s.len.toNat ∧ (2 : Byte).toNat ≤ 2
        ∧ (∀ a ∈ s.env.answers, a = Answer.ok) ∧ 3 + 4 * 1 ≤ s.env.answers.length) :=
  ⟨⟨⟨rfl, rfl, rfl⟩, by decide⟩, ⟨⟨rfl, rfl, rfl⟩, by decide⟩⟩

theorem witness_NopResult :
    (0x00000010 : Word).extractLsb' 0 4 = 0 ∧ (0x00000010 : Word) ≠ 0 ∧ (inPhase .encHdr [] []).st.busy = true := by decide

/-- The two STATUS examples before their CLR. The last clause's hypotheses are met in witness_BusyWritesAreDropped. -/
theorem witness_ClrResult :
    (inPhase .encHdr [] []).st.busy = true
    ∧ statusWord { Status.reset with done := true, ovr := true, err := .config } = 0x0000001A
    ∧ statusWord { Status.reset with done := true, rkv := true, ovr := true, rkn := 2 } = 0x0000020E := by decide

theorem witness_CommandsFinishInOneStep :
    Instr.clr.isStream = false ∧ onNext (exec .clr State.reset) (fun _ => true) = true
    ∧ onNext (exec .decgrp State.reset) (fun _ => true) = true := by decide

theorem witness_PrimitiveErrorsArePrecise :
    Instr.encgrp.isStream = false ∧ onNext (exec .encgrp State.reset) (fun t => decide (t.st.err ≠ .noError)) = true := by decide

/-- With and without an error, for a primitive command and for the others. -/
theorem witness_DoutWrittenOnlyOnSuccess :
    onNext (exec .encblk State.reset) (fun t => decide (t.st.err ≠ .noError)) = true
    ∧ onNext (exec .keygen State.reset) (fun t => decide (t.dout = 0)) = true
    ∧ onNext (exec .hswap State.reset) (fun t => decide (t.st.err = .noError)) = true := by decide

theorem witness_OperandsWrittenByHostOnly :
    onNext (exec .round (withOperands 1 2 3 4 5)) (fun _ => true) = true
    ∧ onNext (coreStep (inPhase .encRead [1] [.ok])) (fun t => decide (t.buf ≠ 0)) = true := by decide

/-- A KEY write, a NR write, an out-of-range KEYGEN, the end of a running command and one that never started. -/
theorem witness_ScheduleInvalidation :
    (loaded 0x1C0 2 0).st.busy = false
    ∧ onNext (step (doing [.write 2 0] (loaded 0x1C0 2 0))) (fun t => !t.st.rkv) = true
    ∧ onNext (step (doing [.write 3 0] (loaded 0x1C0 2 0))) (fun t => !t.st.rkv) = true
    ∧ (withOperands 0 0 0 0 0).nr.toNat = 0 ∧ 9 < (withOperands 0 10 0 0 0).nr.toNat
    ∧ onNext (step (inPhase .encRead [] [.ok])) (fun t => !t.st.busy) = true
    ∧ onNext (exec .encode (withFile [] [.error])) (fun t => !t.st.busy && decide (t.env.actions = [])) = true := by decide

theorem witness_RoundKeysImmutableAfterCreation :
    onNext (exec .encblk (loaded 0x1C0 2 0)) (fun t => t.st.rkv) = true
    ∧ onNext (coreStep (inPhase .encRead [1] [.ok])) (fun t => t.st.busy && t.st.rkv) = true := by decide

/-- Reset of a running command. -/
theorem witness_ResetAction : onNext (step (doing [.reset] overrun)) (fun t => decide (statusWord t.st = 0) && !t.env.outputTrusted) = true := by
  decide

theorem statusInv_of {s : State} (h : (s.st.rkv = false ↔ s.st.rkn = 0) ∧ (s.st.busy = true ↔ s.st.phase ≠ .idle)
    ∧ (s.st.busy = false → s.st.inOpen = false ∧ s.st.outOpen = false ∧ s.st.bidx = 0)
    ∧ (s.st.busy = false → s.st.err ≠ .noError → s.st.done = true)) : StatusInv s := ⟨h.1, h.2.1, h.2.2.1, h.2.2.2⟩

/-- A state in the middle of an ENCODE that meets the invariants, with its next step. -/
theorem witness_StatusInvariantKept :
    StatusInv (inPhase .encHdr [] [.ok]) ∧ onNext (step (inPhase .encHdr [] [.ok])) (fun _ => true) = true :=
  ⟨statusInv_of (by decide), by decide⟩

theorem witness_ScheduleInvariantKept :
    ScheduleInv (loaded 0x1C0 2 0) ∧ (loaded 0x1C0 2 0).st.rkv = true
      ∧ onNext (step (doing [.write 2 0] (loaded 0x1C0 2 0))) (fun _ => true) = true := by
  refine ⟨?_, by decide, by decide⟩
  exact ⟨[0xE0, 0xC0], by decide, by decide, by decide⟩

/-- Also of DutifulHostIsNeverRefused. -/
theorem witness_StreamInvariantKept :
    StreamInv (inPhase .encHdr [] [.ok]) ∧ HostKeepsDuties (inPhase .encHdr [] [.ok])
      ∧ onNext (step (inPhase .encHdr [] [.ok])) (fun _ => true) = true := by
  refine ⟨⟨statusInv_of (by decide), ⟨by decide, by decide, by decide, by decide, by decide⟩, ?_, by decide, by decide⟩,
    ⟨by decide, fun bs rest h => ?_⟩, by decide⟩
  · exact ⟨rfl, rfl, rfl, rfl, rfl, by decide⟩
  · cases h

end Sys2Proof.Tests
end

/-! # The register window, the invalidation of the round-key file, and what a CORE step leaves unchanged

The statements of 10_state.md on CMD writes (R21), operand writes (R24 to R29), ignored writes and reads (R40, R44), writes while
busy (R43) and the round-key file (R36). Each is put together from equations of the register window and from two frame lemmas, one
for the CORE steps of a running command and one for the start step of a stream command. -/

namespace Sys2Proof.Machine

section RegisterWindow

/-! ## Host writes, index by index (10_state.md R20) -/

/-- With an action to come, a step is that action at the state with the action taken (20_memory.md R64). -/
theorem step_of_actions_cons {s : State} {a : HostAction} {rest : List HostAction} (h : s.env.actions = a :: rest) :
    step s = hostAct a (s.awaiting rest) := by
  simp only [step, nextEvent, h]; rfl

theorem step_awaiting_write (s : State) (i : Fin 64) (v : Word) (rest : List HostAction) :
    step (s.awaiting (.write i v :: rest)) = hostWrite i v (s.awaiting rest) := rfl

theorem step_awaiting_read (s : State) (i : Fin 64) (rest : List HostAction) :
    step (s.awaiting (.read i :: rest)) = .next (hostRead i (s.awaiting rest)) := rfl

/-- Read-only and reserved indices ignore writes at any time (10_state.md R40). -/
theorem hostWrite_unguarded {i : Fin 64} (hi : guarded i = false) (v : Word) (s : State) :
    hostWrite i v s = .next s := by
  obtain ⟨-, h⟩ | ⟨hg, -⟩ | ⟨hr, -⟩ | ⟨hr, -⟩ | ⟨hr, -⟩ | ⟨hr, -⟩ | ⟨hr, -⟩ | ⟨hr, -⟩ := hostWrite_cases (Eq.refl (hostWrite i v s))
  · exact h
  all_goals simp_all [guarded]

/-- A guarded register drops a write while BUSY = 1 (10_state.md R43). -/
theorem hostWrite_busy {i : Fin 64} {s : State} (hi : guarded i = true) (hb : s.st.busy = true) (v : Word) :
    hostWrite i v s = .next (dropWrite s) := by
  obtain ⟨hg, -⟩ | ⟨-, -, h⟩ | h := hostWrite_cases (Eq.refl (hostWrite i v s))
  · simp_all
  · exact h
  · simp_all

section Accepted

variable {s : State} (v : Word) (hb : s.st.busy = false)
include hb

theorem hostWrite_cmd : hostWrite 0 v s = issue v s := if_neg (by simp [hb])
theorem hostWrite_key : hostWrite 2 v s = .next (writeKey v s) := if_neg (by simp [hb])
theorem hostWrite_nr : hostWrite 3 v s = .next (writeNr v s) := if_neg (by simp [hb])
theorem hostWrite_din : hostWrite 4 v s = .next (writeDin v s) := if_neg (by simp [hb])
theorem hostWrite_sk : hostWrite 5 v s = .next (writeSk v s) := if_neg (by simp [hb])
theorem hostWrite_len : hostWrite 7 v s = .next (writeLen v s) := if_neg (by simp [hb])

end Accepted

/-- CMD is the register at index 0 alone (10_state.md R20). -/
theorem ofIndex_eq_cmd {i : Fin 64} (h : Reg.ofIndex i = some .cmd) : i = 0 := by
  revert i; decide

/-! ## Issuing a word (10_state.md R21) -/

theorem issue_legal {w : Word} {i : Instr} (h : Sys2Proof.decode w = .ok i) (s : State) : issue w s = exec i s := by
  simp only [issue, h]

theorem issue_illegal {w : Word} {e : Illegal} (h : Sys2Proof.decode w = .error e) (s : State) :
    issue w s = .next (finish .illegal s) := by
  simp only [issue, h]

/-! ## Reads (10_state.md R44) -/

/-- What a read returns does not depend on the host's side. -/
@[simp] theorem readIndex_awaiting (i : Fin 64) (s : State) (acts : List HostAction) :
    readIndex i (s.awaiting acts) = readIndex i s := by
  unfold readIndex
  cases Reg.ofIndex i with
  | none => rfl
  | some r => cases r <;> rfl

/-- A register's own index reads its value (10_state.md R20). -/
theorem readIndex_index (r : Reg) (s : State) : readIndex r.index s = readReg r s := by
  simp only [readIndex, reg_ofIndex_index]

/-- The reserved indices 13 to 15 and 25 to 63 name no register (10_state.md R40). -/
theorem ofIndex_reserved {i : Fin 64} (h : (13 ≤ i ∧ i ≤ 15) ∨ 25 ≤ i) : Reg.ofIndex i = none := by
  revert i; decide

theorem readIndex_reserved {i : Fin 64} (h : (13 ≤ i ∧ i ≤ 15) ∨ 25 ≤ i) (s : State) : readIndex i s = 0 := by
  simp only [readIndex, ofIndex_reserved h]

/-- A zero-extended register reads 0 above its own bits. -/
theorem extractLsb'_zextWord_high {n : Nat} (v : BitVec n) (k : Nat) : (zextWord v).extractLsb' n k = 0 := by
  ext j hj
  simp [zextWord]

/-- Bits [31:22] of STATUS are reserved (10_state.md R22). -/
theorem extractLsb'_statusWord_high (st : Status) : (statusWord st).extractLsb' 22 10 = 0 := by
  have high_of_append (fields : BitVec 22) : (0#10 ++ fields).extractLsb' 22 10 = 0 := BitVec.extractLsb'_append_eq_left
  simpa only [statusWord, BitVec.append_assoc, BitVec.cast_eq] using high_of_append _

end RegisterWindow

section CoreSteps

/-! ## What a CORE step leaves unchanged (10_state.md R37, R43; 43_stream_codec.md R159 to R167) -/

/-- `t` differs from `s` only in what the steps of a running ENCODE or DECODE work on: the position in the streams, BUF, and the
bytes and answers exchanged with the host. -/
def RunningFrame (s t : State) : Prop :=
  t = { s with
    st := { s.st with phase := t.st.phase, pad := t.st.pad, bidx := t.st.bidx }
    buf := t.buf, icnt := t.icnt, ocnt := t.ocnt, gcnt := t.gcnt, wlim := t.wlim
    env := { s.env with output := t.env.output, answers := t.env.answers, trace := t.env.trace } }

theorem RunningFrame.busy {s t : State} (h : RunningFrame s t) : t.st.busy = s.st.busy := congrArg (·.st.busy) h
theorem RunningFrame.ovr {s t : State} (h : RunningFrame s t) : t.st.ovr = s.st.ovr := congrArg (·.st.ovr) h

/-- What a CORE step does to a command in progress: the command runs on, or it ends, without or with an error. -/
def RunsOnOrEnds (s t : State) : Prop :=
  RunningFrame s t ∨ ∃ e u, RunningFrame s u ∧ (t = streamFinish e u ∨ t = streamRaise e u)

theorem RunsOnOrEnds.finish {e : ErrCode} {s u : State} (h : RunningFrame s u) : RunsOnOrEnds s (streamFinish e u) :=
  .inr ⟨e, u, h, .inl rfl⟩

theorem RunsOnOrEnds.raise {e : ErrCode} {s u : State} (h : RunningFrame s u) : RunsOnOrEnds s (streamRaise e u) :=
  .inr ⟨e, u, h, .inr rfl⟩

/-- A step that writes a byte runs on or ends when what it does after an Ok answer does (43_stream_codec.md R159, R161, R167). -/
theorem withWrite_runsOnOrEnds {b : Byte} {s t : State} {after : State → State} (h : withWrite b s after = .next t)
    (hafter : ∀ rest, RunsOnOrEnds s (after (wrote b (asked (.outWrite b) rest s)))) : RunsOnOrEnds s t := by
  obtain ⟨-, rfl⟩ | ⟨rest, -, rfl⟩ | ⟨rest, -, rfl⟩ := withWrite_next h
  · exact .inl rfl
  · exact .raise rfl
  · exact hafter rest

/-- A step that reads runs on or ends when what it does with the bytes does (43_stream_codec.md R160, R165, R166). -/
theorem withRead_runsOnOrEnds {k : Nat} {s t : State} {use : List Byte → State → Result} (h : withRead k s use = .next t)
    (huse : ∀ rest, use (nextBytes k s) (asked (.inRead k) rest s) = .next t → RunsOnOrEnds s t) : RunsOnOrEnds s t := by
  obtain ⟨-, rfl⟩ | ⟨rest, -, rfl⟩ | ⟨rest, -, -, hnext⟩ := withRead_next h
  · exact .inl rfl
  · exact .raise rfl
  · exact huse rest hnext

theorem encAfterWrite_runningFrame {s u : State} (h : RunningFrame s u) : RunningFrame s (encAfterWrite u) := by
  rw [h]; unfold encAfterWrite; split <;> rfl

theorem decAfterWrite_runsOnOrEnds {s u : State} (h : RunningFrame s u) : RunsOnOrEnds s (decAfterWrite u) := by
  rw [h]; unfold decAfterWrite
  split
  · dsimp only
    split
    · exact .finish rfl
    · exact .inl rfl
  · exact .inl rfl

theorem decTakePad_runsOnOrEnds {s u : State} (p : Byte) (h : RunningFrame s u) : RunsOnOrEnds s (decTakePad p u) := by
  rw [h]; unfold decTakePad
  dsimp only
  split
  · exact .raise rfl
  · split
    · exact .raise rfl
    · split
      · exact .finish rfl
      · exact .inl rfl

/-- Everything a CORE step can do to a command in progress, phase by phase. -/
theorem coreStep_runsOnOrEnds {s t : State} (h : coreStep s = .next t) : RunsOnOrEnds s t := by
  obtain ⟨-, ht⟩ | ⟨-, h⟩ | ⟨-, h⟩ | ⟨-, h⟩ | ⟨-, h⟩ | ⟨-, h⟩ | ⟨-, h⟩ := coreStep_cases h
  · cases ht; exact .inl rfl
  · exact withWrite_runsOnOrEnds h fun _ => .inl rfl
  · refine withRead_runsOnOrEnds h fun rest hnext => ?_
    split at hnext <;> cases hnext
    · exact .finish rfl
    · exact .inl rfl
  · exact withWrite_runsOnOrEnds h fun _ => .inl (encAfterWrite_runningFrame rfl)
  · refine withRead_runsOnOrEnds h fun rest hnext => ?_
    split at hnext <;> cases hnext
    exact decTakePad_runsOnOrEnds _ rfl
  · exact withRead_runsOnOrEnds h fun rest hnext => by cases hnext; exact .inl rfl
  · exact withWrite_runsOnOrEnds h fun _ => decAfterWrite_runsOnOrEnds rfl

/-- No CORE step changes OVR (10_state.md R43). -/
theorem coreStep_ovr {s t : State} (h : coreStep s = .next t) : t.st.ovr = s.st.ovr := by
  obtain hrun | ⟨e, u, hrun, rfl | rfl⟩ := coreStep_runsOnOrEnds h
  · exact hrun.ovr
  · simp [hrun.ovr]
  · simp [hrun.ovr]

end CoreSteps

section StartSteps

/-! ## What a start step can do (43_stream_codec.md R151, R158, R162) -/

/-- A start step either ends its command with an error, or leaves it in progress. Either way OVR is as before. -/
def StartsOrEnds (s t : State) : Prop :=
  t.st.ovr = s.st.ovr ∧ (t.st.busy = true ∨ ∃ e u, t = streamRaise e u)

theorem encodeStart_startsOrEnds {s t : State} (h : encodeStart s = some t) : StartsOrEnds s t := by
  obtain ⟨-, rfl⟩ | ⟨r, -, ⟨rest, -, rfl⟩ | ⟨rest, -, rfl⟩ | ⟨rest, -, rfl⟩⟩ := encodeStart_some h
  · exact ⟨by simp, .inr ⟨_, _, rfl⟩⟩
  · exact ⟨by simp [started], .inr ⟨_, _, rfl⟩⟩
  · exact ⟨by simp [started, inputOpened], .inr ⟨_, _, rfl⟩⟩
  · exact ⟨rfl, .inl rfl⟩

theorem decodeStart_startsOrEnds {s t : State} (h : decodeStart s = some t) : StartsOrEnds s t := by
  obtain ⟨-, rfl⟩ | ⟨r, -, ⟨rest, -, rfl⟩ | ⟨rest, -, -, rfl⟩ | ⟨rest, -, -, rfl⟩ | ⟨rest, -, -, rfl⟩⟩ := decodeStart_some h
  · exact ⟨by simp, .inr ⟨_, _, rfl⟩⟩
  · exact ⟨by simp [started], .inr ⟨_, _, rfl⟩⟩
  · exact ⟨by simp [started, inputOpened], .inr ⟨_, _, rfl⟩⟩
  · exact ⟨by simp [started, inputOpened], .inr ⟨_, _, rfl⟩⟩
  · exact ⟨rfl, .inl rfl⟩

/-- A stream command's meaning: its start step, or the command stands again as it stood. -/
theorem exec_stream_next {i : Instr} {s t : State} (hi : i = .encode ∨ i = .decode) (h : exec i s = .next t) :
    StartsOrEnds s t ∨ t = reissue i s := by
  obtain rfl | rfl := hi
  · obtain ⟨⟨⟩, -⟩ | ⟨⟨⟩, -⟩ | ⟨⟨⟩, -⟩ | ⟨⟨⟩, -⟩ | ⟨-, he | ⟨-, rfl⟩⟩ | ⟨⟨⟩, -⟩ | ⟨⟨⟩, -⟩ := exec_next h
    · exact .inl (encodeStart_startsOrEnds he)
    · exact .inr rfl
  · obtain ⟨⟨⟩, -⟩ | ⟨⟨⟩, -⟩ | ⟨⟨⟩, -⟩ | ⟨⟨⟩, -⟩ | ⟨⟨⟩, -⟩ | ⟨-, he | ⟨-, rfl⟩⟩ | ⟨⟨⟩, -⟩ := exec_next h
    · exact .inl (decodeStart_startsOrEnds he)
    · exact .inr rfl

/-- Of all commands only CLR changes OVR (10_state.md R43, 44_control.md R191). -/
theorem exec_ovr {i : Instr} {s t : State} (hi : i ≠ .clr) (h : exec i s = .next t) : t.st.ovr = s.st.ovr := by
  obtain ⟨-, rfl⟩ | ⟨-, ⟨-, rfl⟩ | ⟨r, -, rfl⟩⟩ | ⟨-, -, v, -, rfl⟩ | ⟨-, -, rfl⟩ | ⟨-, he | ⟨-, rfl⟩⟩ | ⟨-, he | ⟨-, rfl⟩⟩ | ⟨hclr, -⟩ :=
    exec_next h
  · rfl
  · rfl
  · rfl
  · rfl
  · rfl
  · exact (encodeStart_startsOrEnds he).1
  · rfl
  · exact (decodeStart_startsOrEnds he).1
  · rfl
  · exact absurd hclr hi

end StartSteps

section ClrWord

/-! ## The word of CLR (30_encoding.md R70, R71) -/

theorem decodePlain_ok {w : Word} {i j : Instr} (h : decodePlain w i = .ok j) : fieldAboveOp w = 0 ∧ i = j := by
  unfold decodePlain at h
  split at h
  · cases h; exact ⟨by assumption, rfl⟩
  · cases h

theorem decodeKeyed_ok {w : Word} {fromSk j : Instr} {fromRk : BitVec 4 → Instr} (h : decodeKeyed w fromSk fromRk = .ok j) :
    j = fromSk ∨ j = fromRk (fieldIdx w) := by
  unfold decodeKeyed at h
  split at h
  · split at h
    · split at h
      · cases h; exact .inr rfl
      · cases h
    · split at h
      · cases h; exact .inl rfl
      · cases h
  · cases h

/-- A word is its reserved bits [31:4] before its OP. -/
theorem fieldAboveOp_append_fieldOp (w : Word) : (fieldAboveOp w ++ fieldOp w : BitVec (28 + 4)) = w :=
  (BitVec.extractLsb'_append_extractLsb'_eq_extractLsb' rfl).trans BitVec.extractLsb'_eq_self

/-- CLR has one word (30_encoding.md R71). -/
theorem eq_of_decode_clr {w : Word} (h : Sys2Proof.decode w = .ok .clr) : w = 0x0000000E := by
  unfold Sys2Proof.decode at h
  split at h
  case h_15 hop =>
    have hop : fieldOp w = 0xE := BitVec.eq_of_toNat_eq hop
    rw [← fieldAboveOp_append_fieldOp w, (decodePlain_ok h).1, hop]
    rfl
  case h_16 => cases h
  case h_5 => obtain h | h := decodeKeyed_ok h <;> cases h
  case h_6 => obtain h | h := decodeKeyed_ok h <;> cases h
  all_goals exact nomatch (decodePlain_ok h).2

end ClrWord

section HostActions

/-! ## Who clears OVR, and what the host cannot change while a command runs (10_state.md R43) -/

@[simp] theorem hostPoll_st (s : State) : (hostPoll s).st = s.st := by
  unfold hostPoll; dsimp only; split <;> rfl

theorem hostSupply_next {bs : List Byte} {s t : State} (h : hostSupply bs s = .next t) :
    t = { s with env := { s.env with input := bs } } := by
  unfold hostSupply at h
  split at h <;> cases h
  rfl

/-- Of the issued words only CLR's clears OVR (10_state.md R43). -/
theorem issue_clears_ovr {w : Word} {s t : State} (h : issue w s = .next t) (hne : t.st.ovr ≠ s.st.ovr) :
    w = 0x0000000E := by
  obtain ⟨i, hi, hexec⟩ | ⟨e, -, ho⟩ := issue_cases h
  · by_cases hclr : i = .clr
    · exact eq_of_decode_clr (hclr ▸ hi)
    · exact absurd (exec_ovr hclr hexec) hne
  · cases ho; exact absurd rfl hne

/-- A host write that clears OVR is a CLR issued while BUSY = 0 (10_state.md R43). -/
theorem hostWrite_clears_ovr {i : Fin 64} {v : Word} {s t : State} (h : hostWrite i v s = .next t)
    (ht : t.st.ovr = false) (hne : t.st.ovr ≠ s.st.ovr) : i = 0 ∧ s.st.busy = false ∧ v = 0x0000000E := by
  obtain ⟨-, ho⟩ | ⟨-, -, ho⟩ | ⟨hcmd, hb, hissue⟩ | ⟨-, -, ho⟩ | ⟨-, -, ho⟩ | ⟨-, -, ho⟩ | ⟨-, -, ho⟩ | ⟨-, -, ho⟩ := hostWrite_cases h
  · cases ho; exact absurd rfl hne
  · cases ho; exact nomatch ht
  · exact ⟨ofIndex_eq_cmd hcmd, hb, issue_clears_ovr hissue hne⟩
  all_goals cases ho; exact absurd rfl hne

/-- Only CLR and reset clear OVR (10_state.md R43). -/
theorem hostAct_clears_ovr {a : HostAction} {s t : State} (h : hostAct a s = .next t)
    (ht : t.st.ovr = false) (hne : t.st.ovr ≠ s.st.ovr) :
    a = .reset ∨ (s.st.busy = false ∧ a = .write 0 0x0000000E) := by
  cases a with
  | write i v =>
    obtain ⟨rfl, hb, rfl⟩ := hostWrite_clears_ovr h ht hne
    exact .inr ⟨hb, rfl⟩
  | read i => cases h; exact absurd rfl hne
  | poll => cases h; exact absurd (by rw [hostPoll_st]) hne
  | coreTurn => exact absurd (coreStep_ovr h) hne
  | reset => exact .inl rfl
  | supplyInput bs => cases hostSupply_next h; exact absurd rfl hne

/-- `t` differs from `s` only in OVR and on the host's side. -/
def BusyFrame (s t : State) : Prop := t = { s with st := { s.st with ovr := t.st.ovr }, env := t.env }

theorem BusyFrame.busy {s t : State} (h : BusyFrame s t) : t.st.busy = s.st.busy := congrArg (·.st.busy) h

theorem hostPoll_busyFrame (s : State) : BusyFrame s (hostPoll s) := by
  unfold hostPoll; dsimp only; split <;> rfl

/-- While a command runs, a host action that is neither reset nor a turn of the CORE changes OVR and the host's side only
(10_state.md R43). -/
theorem hostAct_busyFrame {a : HostAction} {s t : State} (h : hostAct a s = .next t) (hb : s.st.busy = true)
    (hreset : a ≠ .reset) (hturn : a ≠ .coreTurn) : BusyFrame s t := by
  cases a with
  | write i v =>
    cases hg : guarded i with
    | false => cases (hostWrite_unguarded hg v s).symm.trans h; rfl
    | true => cases (hostWrite_busy hg hb v).symm.trans h; rfl
  | read i => cases h; rfl
  | poll => cases h; exact hostPoll_busyFrame s
  | coreTurn => exact absurd rfl hturn
  | reset => exact absurd rfl hreset
  | supplyInput bs => cases hostSupply_next h; rfl

end HostActions

section Invalidation

/-! ## The round-key file cleared (10_state.md R36) -/

/-- The round-key file as R36 leaves it: `RKV = 0`, `RKN = 0`, every `RK[i] = 0`. -/
def ScheduleCleared (t : State) : Prop := t.st.rkv = false ∧ t.st.rkn = 0 ∧ ∀ i : Fin 9, t.rk[i] = 0

theorem zeroRk_getElem (i : Fin 9) : zeroRk[i] = 0 := by
  revert i; decide

theorem scheduleCleared_of_zeroRk {t : State} (hrkv : t.st.rkv = false) (hrkn : t.st.rkn = 0) (hrk : t.rk = zeroRk) :
    ScheduleCleared t :=
  ⟨hrkv, hrkn, fun i => by rw [hrk]; exact zeroRk_getElem i⟩

theorem clearSchedule_cleared (s : State) : ScheduleCleared (clearSchedule s) :=
  scheduleCleared_of_zeroRk rfl rfl rfl

theorem streamFinish_cleared (e : ErrCode) (s : State) : ScheduleCleared (streamFinish e s) :=
  scheduleCleared_of_zeroRk (by simp) (by simp) (by simp)

theorem streamRaise_cleared (e : ErrCode) (s : State) : ScheduleCleared (streamRaise e s) :=
  scheduleCleared_of_zeroRk (by simp) (by simp) (by simp)

/-- A CORE step that ends the command in progress invalidates the round-key file (10_state.md R36 (c)). -/
theorem coreStep_end_cleared {s t : State} (h : coreStep s = .next t) (hne : t.st.busy ≠ s.st.busy) : ScheduleCleared t := by
  obtain hrun | ⟨e, u, -, rfl | rfl⟩ := coreStep_runsOnOrEnds h
  · exact absurd hrun.busy hne
  · exact streamFinish_cleared e u
  · exact streamRaise_cleared e u

/-- So does every host action that ends it: a turn of the CORE, or reset. -/
theorem hostAct_end_cleared {a : HostAction} {s t : State} (h : hostAct a s = .next t) (hb : s.st.busy = true)
    (hne : t.st.busy ≠ s.st.busy) : ScheduleCleared t := by
  by_cases hreset : a = .reset
  · subst hreset; cases h; exact scheduleCleared_of_zeroRk rfl rfl rfl
  · by_cases hturn : a = .coreTurn
    · subst hturn; exact coreStep_end_cleared h hne
    · exact absurd (hostAct_busyFrame h hb hreset hturn).busy hne

/-- KEYGEN with a round count out of range is CONFIG with the round-key file invalidated (40_key_schedule.md R104). -/
theorem exec_keygen_config {s : State} (h : s.nr.toNat < 1 ∨ 9 < s.nr.toNat) :
    exec .keygen s = .next (finish .config (clearSchedule (accept s))) := by
  simp [exec, execKeygen, (schedule_eq_none s.cfg s.key s.nr).2 h]

/-- A start step that has happened and leaves the CORE idle has ended its command with the round-key file invalidated. -/
theorem exec_stream_end_cleared {i : Instr} {s t : State} (hi : i = .encode ∨ i = .decode) (h : exec i s = .next t)
    (hidle : t.st.busy = false) (hact : t.env.actions = s.env.actions) : ScheduleCleared t := by
  obtain ⟨-, hb | ⟨e, u, rfl⟩⟩ | rfl := exec_stream_next hi h
  · simp [hidle] at hb
  · exact streamRaise_cleared e u
  · exact absurd hact (List.cons_ne_self _ _)

end Invalidation

/-! ## The statements -/

/-- Settles O5: the CMD write reaches `issue` while idle and is dropped while busy. -/
theorem cmdWriteIssuesCommand : Obligations.CmdWriteIssuesCommand := by
  unfold Obligations.CmdWriteIssuesCommand
  simp only [step_awaiting_write]
  refine ⟨fun s rest w hb => ?_, fun s rest w hb => hostWrite_busy (s := s.awaiting rest) rfl hb w, fun s => readIndex_index .cmd s⟩
  rw [hostWrite_cmd (s := s.awaiting rest) w hb]
  exact ⟨fun i hi => issue_legal hi _, fun ⟨e, he⟩ => issue_illegal he _⟩

/-- Settles O7: the dropped write, who clears OVR, and the frame of the host's actions while a command runs. -/
theorem busyWritesAreDropped : Obligations.BusyWritesAreDropped := by
  unfold Obligations.BusyWritesAreDropped
  refine ⟨fun s rest i v hb hi => ?_, fun s t h hs ht => ?_, fun s t a rest hb ha hreset hturn h => ?_⟩
  · have hg : guarded i = true := by revert i; decide
    exact hostWrite_busy (s := s.awaiting rest) hg hb v
  · have hne : t.st.ovr ≠ s.st.ovr := by simp [hs, ht]
    obtain ⟨-, hcore⟩ | ⟨a, rest, ha, hact⟩ := step_cases h
    · exact absurd (coreStep_ovr hcore) hne
    · obtain rfl | ⟨hb, rfl⟩ := hostAct_clears_ovr hact ht hne
      · exact .inl ⟨rest, ha⟩
      · exact .inr ⟨hb, rest, ha⟩
  · rw [step_of_actions_cons ha] at h
    exact hostAct_busyFrame (s := s.awaiting rest) h hb hreset hturn

/-- Settles O8: writes and reads by the kind of index, and the zero extension of every register with reserved bits. -/
theorem readsAndIgnoredWrites : Obligations.ReadsAndIgnoredWrites := by
  unfold Obligations.ReadsAndIgnoredWrites
  refine ⟨fun s rest i v hi => ?_, fun s rest i => ?_, fun s => ?_, fun s => ?_, fun s v v' => ?_⟩
  · have unguarded : guarded i = false := by revert i; decide
    exact hostWrite_unguarded unguarded v _
  · simp only [step_awaiting_read, hostRead, readIndex_awaiting]
    rfl
  · exact ⟨rfl, rfl, rfl, rfl, rfl, rfl, rfl, rfl, rfl, rfl, rfl, rfl, rfl, fun k => readIndex_index (.rk k) s,
      fun i hi => readIndex_reserved hi s⟩
  · refine ⟨extractLsb'_zextWord_high s.key 23, extractLsb'_zextWord_high s.sk 24, extractLsb'_zextWord_high s.buf 8,
      extractLsb'_statusWord_high s.st, fun k => ?_⟩
    have hread := readIndex_index (.rk k) s
    exact (congrArg (BitVec.extractLsb' 8 24) hread).trans (extractLsb'_zextWord_high s.rk[k] 24)
  · cases hb : s.st.busy
    · simp only [hostWrite_key _ hb, hostWrite_sk _ hb, writeKey, writeSk]
      exact ⟨fun h => by rw [h], fun h => by rw [h]⟩
    · exact ⟨fun _ => by rw [hostWrite_busy rfl hb, hostWrite_busy rfl hb],
        fun _ => by rw [hostWrite_busy rfl hb, hostWrite_busy rfl hb]⟩

/-- Settles O9: the accepted write of each operand register, as its equation states it. -/
theorem acceptedOperandWrites : Obligations.AcceptedOperandWrites := by
  unfold Obligations.AcceptedOperandWrites
  refine ⟨fun s rest v hb => ?_, fun s v => rfl, rfl, rfl⟩
  simp only [step_awaiting_write]
  exact ⟨hostWrite_key v hb, hostWrite_nr v hb, hostWrite_din v hb, hostWrite_sk v hb, hostWrite_len v hb⟩

/-- Settles O51: each of R36's cases (a), (b) and (c) clears the file. -/
theorem scheduleInvalidation : Obligations.ScheduleInvalidation := by
  unfold Obligations.ScheduleInvalidation
  refine ⟨fun s t rest v hb h => ?_, fun s hn => ?_, fun s t h hb hidle => ?_, fun i s t hi h hidle hact => ?_⟩
  · rw [step_awaiting_write, step_awaiting_write, hostWrite_key (s := s.awaiting rest) v hb,
      hostWrite_nr (s := s.awaiting rest) v hb] at h
    obtain h | h := h <;> cases h <;> exact clearSchedule_cleared _
  · have hn : s.nr.toNat < 1 ∨ 9 < s.nr.toNat := by omega
    exact ⟨_, exec_keygen_config hn, scheduleCleared_of_zeroRk rfl rfl rfl⟩
  · have hne : t.st.busy ≠ s.st.busy := by simp [hb, hidle]
    obtain ⟨-, hcore⟩ | ⟨a, rest, -, hact⟩ := step_cases h
    · exact coreStep_end_cleared hcore hne
    · exact hostAct_end_cleared hact hb hne
  · exact exec_stream_end_cleared hi h hidle hact

end Sys2Proof.Machine

/-! # Which words are commands, and what a command word says (30_encoding.md R70 to R74)

The legality test, field by field, for the two kinds of OP; then how the fields of a legal word name its command. -/

namespace Sys2Proof.Machine

section Legality

/-! ## The legality test (30_encoding.md R74) -/

theorem exists_decodePlain_ok_iff {w : Word} {i : Instr} : (∃ j, decodePlain w i = .ok j) ↔ fieldAboveOp w = 0 := by
  unfold decodePlain
  split
  case isTrue habove => exact iff_of_true ⟨i, rfl⟩ habove
  case isFalse habove => exact iff_of_false (fun ⟨_, he⟩ => nomatch he) habove

theorem exists_decodeKeyed_ok_iff {w : Word} {fromSk : Instr} {fromRk : BitVec 4 → Instr} :
    (∃ j, decodeKeyed w fromSk fromRk = .ok j) ↔
      fieldRsvLow w = 0 ∧ fieldRsvHigh w = 0 ∧ if fieldKsel w then (fieldIdx w).toNat ≤ 8 else fieldIdx w = 0 := by
  unfold decodeKeyed legalIdx
  split
  case isTrue hrsv =>
    cases fieldKsel w with
    | true => by_cases hidx : (fieldIdx w).toNat ≤ 8 <;> simp [hrsv, hidx]
    | false => by_cases hidx : fieldIdx w = 0#4 <;> simp [hrsv, hidx]
  case isFalse hrsv => exact iff_of_false (fun ⟨_, he⟩ => nomatch he) fun ⟨hlow, hhigh, _⟩ => hrsv ⟨hlow, hhigh⟩

theorem exists_decode_ok_iff (w : Word) : (∃ i, decode w = .ok i) ↔
    if fieldOp w = 0x4 ∨ fieldOp w = 0x5 then
      fieldRsvLow w = 0 ∧ fieldRsvHigh w = 0 ∧ if fieldKsel w then (fieldIdx w).toNat ≤ 8 else fieldIdx w = 0
    else if fieldOp w = 0xF then False
    else fieldAboveOp w = 0 := by
  unfold Sys2Proof.decode
  split
  case h_5 hop | h_6 hop =>
    rw [if_pos (by simp [← BitVec.toNat_inj, hop])]
    exact exists_decodeKeyed_ok_iff
  case h_16 =>
    have hop : fieldOp w = 0xF := by
      simp only [imp_false] at *
      bv_omega
    rw [if_neg (by simp [hop]), if_pos hop]
    exact iff_of_false (fun ⟨_, he⟩ => nomatch he) id
  all_goals
    rename_i hop
    have hplain : ¬(fieldOp w = 0x4 ∨ fieldOp w = 0x5) ∧ fieldOp w ≠ 0xF := by simp [← BitVec.toNat_inj, hop]
    rw [if_neg hplain.1, if_neg hplain.2]
    exact exists_decodePlain_ok_iff

end Legality

section Dispatch

/-! ## The command a legal word names (30_encoding.md R71, R72) -/

/-- The round-key index a command carries, if it takes its subkey from the round-key file (30_encoding.md R72). -/
def rkIndex : Instr → Option (BitVec 4)
  | .feistelk idx | .roundk idx => some idx
  | .nop | .keygen | .expand | .confuse | .feistel | .round | .hswap | .encblk | .decblk
  | .padcnt | .encgrp | .decgrp | .encode | .decode | .clr => none

theorem rkIndex_eq_some_iff {i : Instr} {j : BitVec 4} : rkIndex i = some j ↔ i = .feistelk j ∨ i = .roundk j := by
  cases i <;> simp [rkIndex]

/-- A word with bits [31:4] all 0 has KSEL = 0. -/
theorem fieldKsel_of_fieldAboveOp {w : Word} (h : fieldAboveOp w = 0) : fieldKsel w = false := by
  have hbit : (fieldAboveOp w).getLsbD 0 = false := by rw [h]; rfl
  simpa [fieldAboveOp, fieldKsel] using hbit

/-- KSEL chooses between the two forms of a keyed command (30_encoding.md R72). -/
theorem eq_of_decodeKeyed_ok {w : Word} {fromSk j : Instr} {fromRk : BitVec 4 → Instr}
    (h : decodeKeyed w fromSk fromRk = .ok j) : j = if fieldKsel w then fromRk (fieldIdx w) else fromSk := by
  unfold decodeKeyed at h
  split at h
  case isFalse => cases h
  split at h
  case isTrue hksel => rw [if_pos hksel]; split at h <;> cases h; rfl
  case isFalse hksel => rw [if_neg hksel]; split at h <;> cases h; rfl

/-- OP is the command's opcode, and KSEL says whether IDX is its operand. -/
theorem decode_ok_fields {w : Word} {i : Instr} (h : decode w = .ok i) :
    i.opcode = fieldOp w ∧ rkIndex i = if fieldKsel w then some (fieldIdx w) else none := by
  unfold Sys2Proof.decode at h
  split at h
  case h_5 hop | h_6 hop =>
    rw [eq_of_decodeKeyed_ok h]
    refine ⟨BitVec.eq_of_toNat_eq (.trans ?_ hop.symm), ?_⟩ <;> split <;> rfl
  case h_16 => cases h
  all_goals
    rename_i hop
    obtain ⟨habove, rfl⟩ := decodePlain_ok h
    rw [fieldKsel_of_fieldAboveOp habove]
    exact ⟨BitVec.eq_of_toNat_eq hop.symm, rfl⟩

end Dispatch

/-- Settles O1: the legality test and the fields of a legal word, with the effect of a CMD write from `cmdWriteIssuesCommand`. -/
theorem cmdDecodeAndDispatch : Obligations.CmdDecodeAndDispatch := by
  unfold Obligations.CmdDecodeAndDispatch
  obtain ⟨hissue, -, -⟩ := cmdWriteIssuesCommand
  refine ⟨exists_decode_ok_iff, fun s rest w hb hill => (hissue s rest w hb).2 ?_, fun s rest w i hb hi => ?_⟩
  · cases hd : decode w with
    | error e => exact ⟨e, rfl⟩
    | ok i => exact absurd hd (hill i)
  · obtain ⟨hop, hrk⟩ := decode_ok_fields hi
    refine ⟨(hissue s rest w hb).1 i hi, hop, ?_, fun j hj => ?_⟩
    · simp only [← rkIndex_eq_some_iff, hrk]
      change _ ↔ fieldKsel w = true
      cases fieldKsel w <;> simp
    · rw [← rkIndex_eq_some_iff, hrk] at hj
      split at hj <;> cases hj
      rfl

end Sys2Proof.Machine

/-! # The Feistel mixer and its commands (41_feistel.md R110 to R122)

First what `expand`, `confuse` and `round` do, field by field; then one equation per command, with the two outcomes of the commands
that take RK[i]; last the statements. -/

namespace Sys2Proof.Machine

section MixerFunctions

/-! ## The functions, field by field (R110 to R117) -/

/-- The input bit each output bit of `expand` takes, from bit 0 up (R110). -/
def expandSource : Vector (Fin 6) 8 := #v[0, 1, 3, 2, 3, 2, 4, 5]

theorem getLsbD_expand (h : Half) (i : Fin 8) : (expand h).getLsbD i = h.getLsbD expandSource[i] := by
  unfold expand
  fin_cases i <;> simp only [BitVec.getLsbD_append, BitVec.getLsbD_extractLsb'] <;> simp [expandSource]

@[simp] theorem extractLsb'_confuse_high (cfg : Config) (y : Byte) :
    (confuse cfg y).extractLsb' 3 3 = sboxEntry cfg.sbox1 (y.extractLsb' 4 4) :=
  BitVec.extractLsb'_append_eq_left

@[simp] theorem extractLsb'_confuse_low (cfg : Config) (y : Byte) :
    (confuse cfg y).extractLsb' 0 3 = sboxEntry cfg.sbox2 (y.extractLsb' 0 4) :=
  BitVec.extractLsb'_append_eq_right

theorem feistel_zero_subkey (cfg : Config) (h : Half) : feistel cfg h 0 = confuse cfg (expand h) :=
  congrArg (confuse cfg) BitVec.xor_zero

theorem feistel_expand_subkey (cfg : Config) (h : Half) : feistel cfg h (expand h) = confuse cfg 0 :=
  congrArg (confuse cfg) BitVec.xor_self

@[simp] theorem leftHalf_round (cfg : Config) (b : Block) (k : Byte) : leftHalf (round cfg b k) = rightHalf b :=
  leftHalf_append _ _

@[simp] theorem rightHalf_round (cfg : Config) (b : Block) (k : Byte) :
    rightHalf (round cfg b k) = feistel cfg (rightHalf b) k ^^^ leftHalf b :=
  rightHalf_append _ _

/-- Two rounds leave the left half mixed with the first round's f, so they are not the identity wherever f is not 0 (R122). -/
theorem round_round_ne {cfg : Config} {b : Block} {k : Byte} (hf : feistel cfg (rightHalf b) k ≠ 0) (k' : Byte) :
    round cfg (round cfg b k) k' ≠ b := by
  intro h
  have hleft : feistel cfg (rightHalf b) k ^^^ leftHalf b = leftHalf b := by
    simpa using congrArg leftHalf h
  exact hf (by simpa using hleft)

/-! ## The default S-boxes (R114) -/

section DefaultSboxes

variable {cfg : Config} (h1 : cfg.sbox1 = defaultSbox1) (h2 : cfg.sbox2 = defaultSbox2)
include h1 h2

theorem confuse_default (y : Byte) : confuse cfg y = confuse defaultConfig y := by
  simp only [confuse, h1, h2]; rfl

theorem feistel_default (h : Half) (k : Byte) : feistel cfg h k = feistel defaultConfig h k :=
  confuse_default h1 h2 _

theorem round_default (b : Block) (k : Byte) : round cfg b k = round defaultConfig b k := by
  simp only [round, feistel_default h1 h2]

end DefaultSboxes

/-- The cross-check of the default S-boxes (R116). -/
theorem feistel_defaultConfig_example : feistel defaultConfig 0x26 0x65 = 0x04 := by decide

end MixerFunctions

section Operands

/-! ## Operands from DIN and results in DOUT (30_encoding.md R72, R73; 10_state.md R28) -/

theorem getLsbD_dinHalf (s : State) (i : Fin 6) : (dinHalf s).getLsbD i = s.din.getLsbD i := by
  simp [dinHalf]

@[simp] theorem rightHalf_dinBlock (s : State) : rightHalf (dinBlock s) = s.din.extractLsb' 0 6 :=
  BitVec.extractLsb'_extractLsb'_of_le (by omega)

@[simp] theorem leftHalf_dinBlock (s : State) : leftHalf (dinBlock s) = s.din.extractLsb' 6 6 :=
  BitVec.extractLsb'_extractLsb'_of_le (by omega)

theorem extractLsb'_zextWord {n : Nat} (v : BitVec n) {start len : Nat} (h : start + len ≤ 32) :
    (zextWord v).extractLsb' start len = v.extractLsb' start len :=
  BitVec.extractLsb'_setWidth_of_le h

theorem zextWord_block_injective {a b : Block} (h : zextWord a = zextWord b) : a = b := by
  have hlow := congrArg (BitVec.extractLsb' 0 12) h
  simpa [extractLsb'_zextWord] using hlow

@[simp] theorem dinBlock_of_zextWord (s : State) (b : Block) : dinBlock { s with din := zextWord b } = b := by
  simp [dinBlock, extractLsb'_zextWord]

/-- An index of the round-key file fits the 4-bit field IDX (30_encoding.md R72). -/
theorem toNat_ofNat_rkIndex (i : Fin 9) : (BitVec.ofNat 4 i.val).toNat = i.val :=
  Nat.mod_eq_of_lt (by omega)

/-- RK[i] for an index of the round-key file (10_state.md R35). -/
theorem rkEntry_ofNat (s : State) (i : Fin 9) : rkEntry s (BitVec.ofNat 4 i.val) = s.rk[i] := by
  simp only [rkEntry, toNat_ofNat_rkIndex]
  simp

end Operands

section MixerCommands

/-! ## One equation per command (R118 to R122) -/

theorem exec_expand (s : State) : exec .expand s = .next (finishResult (zextWord (expand (dinHalf s))) (accept s)) := rfl

theorem exec_confuse (s : State) :
    exec .confuse s = .next (finishResult (zextWord (confuse s.cfg (dinByte s))) (accept s)) := rfl

theorem exec_feistel (s : State) :
    exec .feistel s = .next (finishResult (zextWord (feistel s.cfg (dinHalf s) s.sk)) (accept s)) := rfl

theorem exec_round (s : State) :
    exec .round s = .next (finishResult (zextWord (round s.cfg (dinBlock s) s.sk)) (accept s)) := rfl

/-- An index below RKN takes its subkey from the round-key file (R121, R123). -/
theorem withIndexedKey_loaded {s : State} {i : Fin 9} (h : i.val < s.st.rkn.toNat) (use : Byte → Word) :
    withIndexedKey (BitVec.ofNat 4 i.val) s use = .next (finishResult (use s.rk[i]) s) := by
  rw [withIndexedKey, toNat_ofNat_rkIndex, if_neg (by omega), rkEntry_ofNat]

/-- An index not below RKN is NOKEYS (R121, R123). -/
theorem withIndexedKey_noKeys {s : State} {idx : BitVec 4} (h : s.st.rkn.toNat ≤ idx.toNat) (use : Byte → Word) :
    withIndexedKey idx s use = .next (finish .noKeys s) :=
  if_pos h

theorem exec_feistelk_loaded {s : State} {i : Fin 9} (h : i.val < s.st.rkn.toNat) :
    exec (.feistelk (BitVec.ofNat 4 i.val)) s
      = .next (finishResult (zextWord (feistel s.cfg (dinHalf s) s.rk[i])) (accept s)) :=
  withIndexedKey_loaded (s := accept s) h fun k => zextWord (feistel s.cfg (dinHalf s) k)

theorem exec_feistelk_noKeys {s : State} {idx : BitVec 4} (h : s.st.rkn.toNat ≤ idx.toNat) :
    exec (.feistelk idx) s = .next (finish .noKeys (accept s)) :=
  withIndexedKey_noKeys (s := accept s) h fun k => zextWord (feistel s.cfg (dinHalf s) k)

/-- The word of FEISTELK i (R121) is a command for i up to 8 (30_encoding.md R72, R74). -/
theorem decode_feistelkWord (i : BitVec 4) : Sys2Proof.decode (0x00000014#32 ||| (i.setWidth 32 <<< 8)) =
    if i.toNat ≤ 8 then .ok (.feistelk i) else .error .idxAboveEight := by
  revert i; decide

/-- KEYGEN with a round count in range loads the schedule (40_key_schedule.md R104). -/
theorem exec_keygen_loads {s : State} {r : List Byte} (h : schedule s.cfg s.key s.nr = some r) :
    exec .keygen s = .next (finish .noError (loadSchedule r s.nr (accept s))) := by
  simp [exec, execKeygen, h]

/-- The example schedule of R121: RK[3] is 0x65. -/
theorem schedule_defaultConfig_example :
    schedule defaultConfig 0x099 9 = some [0x4C, 0x99, 0x32, 0x65, 0xCA, 0x94, 0x29, 0x53, 0xA6] := by decide

/-- ROUND of a block the host has moved from DOUT to DIN (R122). -/
theorem exec_round_of_zextWord (s : State) (b : Block) : exec .round { s with din := zextWord b } =
    .next (finishResult (zextWord (round s.cfg b s.sk)) (accept { s with din := zextWord b })) := by
  rw [exec_round, dinBlock_of_zextWord]

end MixerCommands

/-! ## The statements -/

/-- Settles O13: EXPAND's result is `expand` of the half in DIN, whose bits `expandSource` names. -/
theorem expandResult : Obligations.ExpandResult := by
  unfold Obligations.ExpandResult
  refine ⟨by decide, fun s => ⟨zextWord (expand (dinHalf s)), exec_expand s, ?_⟩⟩
  have bit (i : Fin 8) : (zextWord (expand (dinHalf s))).getLsbD i = s.din.getLsbD expandSource[i] := by
    rw [← getLsbD_dinHalf, ← getLsbD_expand, zextWord, BitVec.getLsbD_setWidth]
    simp [show i.val < 32 by omega]
  have value {h : Half} {v : Word} (hv : zextWord (expand h) = v) (hdin : dinHalf s = h) :
      zextWord (expand (dinHalf s)) = v := by rw [hdin, hv]
  exact ⟨bit 7, bit 6, bit 5, bit 4, bit 3, bit 2, bit 1, bit 0, extractLsb'_zextWord_high _ 24, value rfl, value rfl,
    fun hdin => value (h := 0) rfl (by rw [dinHalf, hdin]; rfl), fun hdin => value (h := 0x26) rfl (by rw [dinHalf, hdin]; rfl)⟩

/-- Settles O14: CONFUSE's result is `confuse` of the byte in DIN, one S-box entry in each half. -/
theorem confuseResult : Obligations.ConfuseResult := by
  unfold Obligations.ConfuseResult
  refine ⟨by decide, fun s => ⟨zextWord (confuse s.cfg (dinByte s)), exec_confuse s, ?_, ?_, extractLsb'_zextWord_high _ 26,
    fun hdin => ?_, fun h1 h2 => ⟨fun hdin => ?_, fun hdin => ?_⟩⟩, fun cfg => ?_⟩
  · rw [extractLsb'_zextWord _ (by omega), extractLsb'_confuse_high, dinByte, BitVec.extractLsb'_extractLsb'_of_le (by omega)]
    rfl
  · rw [extractLsb'_zextWord _ (by omega), extractLsb'_confuse_low, dinByte, BitVec.extractLsb'_extractLsb'_of_le (by omega)]
    rfl
  · rw [dinByte, hdin]; rfl
  · rw [confuse_default h1 h2, dinByte, hdin]; decide
  · rw [confuse_default h1 h2, dinByte, hdin]; decide
  · rw [extractLsb'_confuse_high, extractLsb'_confuse_high]; rfl

/-- Settles O15: FEISTEL's result is `feistel` of the half in DIN and SK. -/
theorem feistelResult : Obligations.FeistelResult := by
  unfold Obligations.FeistelResult
  refine ⟨by decide, fun s => ⟨zextWord (feistel s.cfg (dinHalf s) s.sk), exec_feistel s, rfl,
    extractLsb'_zextWord_high _ 26, fun hsk => ?_, fun hsk => ?_, fun h1 h2 hdin hsk => ?_⟩, fun cfg h k => rfl⟩
  · rw [hsk, feistel_zero_subkey]; rfl
  · rw [hsk, dinHalf, feistel_expand_subkey]; rfl
  · have hhalf : dinHalf s = 0x26 := by rw [dinHalf, hdin]; rfl
    rw [feistel_default h1 h2, hhalf, hsk, feistel_defaultConfig_example]; rfl

/-- Settles O16: the two outcomes of `withIndexedKey`, and the example on the schedule KEYGEN loads. -/
theorem feistelkResult : Obligations.FeistelkResult := by
  unfold Obligations.FeistelkResult
  refine ⟨fun i => ?_, fun s i hi => ?_, fun s i hi => ?_, fun s t hcfg hkey hnr hgen => ?_⟩
  · rw [decode_feistelkWord]
    by_cases hi : i.toNat ≤ 8 <;> simp [hi]
  · exact exec_feistelk_loaded hi
  · exact exec_feistelk_noKeys hi
  · have hsched := schedule_defaultConfig_example
    rw [← hcfg, ← hkey, ← hnr] at hsched
    cases (exec_keygen_loads hsched).symm.trans hgen
    refine ⟨_, exec_feistelk_loaded (i := 3) ?_, ?_⟩
    · simp [hnr]
    · change zextWord (feistel s.cfg 0x26 0x65) = 0x04
      rw [hcfg, feistel_defaultConfig_example]; rfl

/-- Settles O17: ROUND's result is `round` of the block in DIN and SK; two rounds keep f of the right half in the left one. -/
theorem roundResult : Obligations.RoundResult := by
  unfold Obligations.RoundResult
  have hf : feistel defaultConfig (rightHalf 0) 0 ≠ 0 := by decide
  refine ⟨by decide, fun s => ⟨zextWord (round s.cfg (dinBlock s) s.sk), exec_round s, ?_, ?_,
      extractLsb'_zextWord_high _ 20, fun h1 h2 hdin hsk => ?_⟩,
    ⟨State.reset, _, _, exec_round _, exec_round_of_zextWord _ _, fun h => ?_⟩,
    ⟨defaultConfig, 0, 0, round_round_ne hf 0⟩⟩
  · rw [extractLsb'_zextWord _ (by omega)]
    exact (leftHalf_round _ _ _).trans (rightHalf_dinBlock s)
  · rw [extractLsb'_zextWord _ (by omega), ← rightHalf_dinBlock, ← leftHalf_dinBlock]
    exact rightHalf_round _ _ _
  · rw [round_default h1 h2, dinBlock, hdin, hsk]; decide
  · exact round_round_ne hf 0 (zextWord_block_injective h)

end Sys2Proof.Machine

/-! # The half-swap and HSWAP (42_block_cipher.md R130, R134)

First what `hswap` does to the halves of a block and that it undoes itself; then the command's equation; last the statement. -/

namespace Sys2Proof.Machine

section HalfSwap

/-! ## The function, half by half (R130) -/

/-- A block is its left half above its right half (00_scope.md R6). -/
theorem leftHalf_append_rightHalf (b : Block) : (leftHalf b ++ rightHalf b : BitVec (6 + 6)) = b := by
  rw [leftHalf, rightHalf, BitVec.extractLsb'_append_extractLsb'_eq_extractLsb' (by rfl)]
  exact BitVec.extractLsb'_eq_self

@[simp] theorem leftHalf_hswap (b : Block) : leftHalf (hswap b) = rightHalf b := leftHalf_append _ _

@[simp] theorem rightHalf_hswap (b : Block) : rightHalf (hswap b) = leftHalf b := rightHalf_append _ _

@[simp] theorem hswap_hswap (b : Block) : hswap (hswap b) = b := by
  rw [hswap, rightHalf_hswap, leftHalf_hswap, leftHalf_append_rightHalf]

theorem hswap_of_equal_halves {b : Block} (h : rightHalf b = leftHalf b) : hswap b = b := by
  calc hswap b = (leftHalf b ++ rightHalf b : BitVec (6 + 6)) := by rw [hswap, h]
    _ = b := leftHalf_append_rightHalf b

end HalfSwap

section HalfSwapCommand

/-! ## The command (R134) -/

theorem exec_hswap (s : State) : exec .hswap s = .next (finishResult (zextWord (hswap (dinBlock s))) (accept s)) := rfl

/-- HSWAP of a block the host has moved from DOUT to DIN. -/
theorem exec_hswap_of_zextWord (s : State) (b : Block) : exec .hswap { s with din := zextWord b } =
    .next (finishResult (zextWord (hswap b)) (accept { s with din := zextWord b })) := by
  rw [exec_hswap, dinBlock_of_zextWord]

end HalfSwapCommand

/-! ## The statement -/

/-- Settles O20: HSWAP's result is `hswap` of the block in DIN, which exchanges the halves and undoes itself. -/
theorem hswapResult : Obligations.HswapResult := by
  unfold Obligations.HswapResult
  refine ⟨by decide, fun s => ⟨zextWord (hswap (dinBlock s)), exec_hswap s, rfl, ?_, ?_, extractLsb'_zextWord_high _ 20,
    fun hequal => ?_, fun hdin => ?_, fun hdin => ?_, _, exec_hswap_of_zextWord _ _, ?_⟩⟩
  · rw [extractLsb'_zextWord _ (by omega)]
    exact (leftHalf_hswap _).trans (rightHalf_dinBlock s)
  · rw [extractLsb'_zextWord _ (by omega)]
    exact (rightHalf_hswap _).trans (leftHalf_dinBlock s)
  · have hhalves : rightHalf (dinBlock s) = leftHalf (dinBlock s) := by
      rw [rightHalf_dinBlock, leftHalf_dinBlock, hequal]
    rw [hswap_of_equal_halves hhalves]; rfl
  · rw [dinBlock, hdin]; decide
  · rw [dinBlock, hdin]; decide
  · exact congrArg zextWord (hswap_hswap (dinBlock s))

end Sys2Proof.Machine

/-! # The stream codec: groups, PADCNT, the reading phases and the end of a stream command (43_stream_codec.md R150 to R165)

First the layout of a group; then PADCNT; then ENC_READ and DEC_HDR as equations by the host's answer; then every exit of ENCODE and
DECODE, phase by phase; last the statements. -/

namespace Sys2Proof.Machine

section Groups

/-! ## The layout of a group (R153, R156) -/

/-- Byte j of an unpacked group is byte j of the list, 0 where it has none (R153). -/
theorem extractLsb'_unpack (bs : List Byte) {j : Nat} (hj : j < 3) :
    (unpack bs).extractLsb' (8 * j) 8 = bs.getD j 0 := by
  induction bs generalizing j with
  | nil => simp [unpack]
  | cons b bs ih =>
    cases j with
    | zero =>
      ext i hi
      simp [unpack, hi, show i < 24 by omega]
    | succ j =>
      rw [List.getD_cons_succ, ← ih (by omega)]
      ext i hi
      have habove : b.getLsbD (8 * (j + 1) + i) = false := BitVec.getLsbD_of_ge _ _ (by omega)
      have hshift : 8 * (j + 1) + i - 8 = 8 * j + i := by omega
      simp [-BitVec.getLsbD_eq_getElem, unpack, habove, hshift, show 8 * (j + 1) + i < 24 by omega,
        show ¬ 8 * (j + 1) + i < 8 by omega]

@[simp] theorem lowBlock_encryptGroup (cfg : Config) (ks : List Byte) (g : Group) :
    lowBlock (encryptGroup cfg ks g) = encrypt cfg ks (lowBlock g) := by
  unfold encryptGroup
  generalize encrypt cfg ks (lowBlock g) = low
  ext i hi
  simp [lowBlock, hi, show i < 24 by omega]

@[simp] theorem highBlock_encryptGroup (cfg : Config) (ks : List Byte) (g : Group) :
    highBlock (encryptGroup cfg ks g) = encrypt cfg ks (highBlock g) := by
  unfold encryptGroup
  generalize encrypt cfg ks (highBlock g) = high
  ext i hi
  simp [highBlock, hi, show 12 + i < 24 by omega]

end Groups

section Padcnt

/-! ## PADCNT (R150, R155) -/

theorem exec_padcnt (s : State) :
    exec .padcnt s = .next (finishResult (BitVec.ofNat 32 (padcount s.len.toNat)) (accept s)) := rfl

theorem toNat_padcountWord (L : Nat) : (BitVec.ofNat 32 (padcount L)).toNat = padcount L :=
  Nat.mod_eq_of_lt (by have := padcount_le L; omega)

theorem add_padcount_mod (L : Nat) : (L + padcount L) % 3 = 0 := by
  unfold padcount; omega

end Padcnt

section Reads

/-! ## The bytes of a read, and the reading phases by the host's answer (R160, R165) -/

/-- Byte j of `InRead(k)`'s answer is byte `ICNT + j` of the input stream, up to LEN. -/
theorem nextBytes_getD {k j : Nat} {s : State} (hj : j < k) :
    (nextBytes k s).getD j 0
      = if s.icnt.toNat + j < s.len.toNat then s.env.input.getD (s.icnt.toNat + j) 0 else 0 := by
  simp only [nextBytes, readSize, List.getD_eq_getElem?_getD, List.getElem?_take, List.getElem?_drop]
  have hread : j < min k (s.len.toNat - s.icnt.toNat) ↔ s.icnt.toNat + j < s.len.toNat := by omega
  simp only [hread]
  split <;> rfl

theorem withRead_error {k : Nat} {s : State} {use : List Byte → State → Result} {rest : List Answer}
    (ha : s.env.answers = .error :: rest) : withRead k s use = .next (streamRaise .ioRead (asked (.inRead k) rest s)) := by
  simp only [withRead, ask_answered ha]

variable {s : State} {rest : List Answer}

theorem coreStep_encRead (hp : s.st.phase = .encRead) : coreStep s = stepEncRead s := by
  simp only [coreStep, hp]

theorem coreStep_decHdr (hp : s.st.phase = .decHdr) : coreStep s = stepDecHdr s := by
  simp only [coreStep, hp]

/-- A zero-byte read ends ENCODE (R160, R170). -/
theorem stepEncRead_end (ha : s.env.answers = .ok :: rest) (hl : s.env.input.length = s.len.toNat)
    (hend : s.len.toNat ≤ s.icnt.toNat) : stepEncRead s = .next (streamFinish .noError (asked (.inRead 3) rest s)) := by
  rw [stepEncRead, withRead_answered ha hl, if_pos]
  rw [nextBytes_length_of_input hl, readSize]; omega

/-- ENC_READ takes the next group (R160). -/
theorem stepEncRead_group (ha : s.env.answers = .ok :: rest) (hl : s.env.input.length = s.len.toNat)
    (hmore : s.icnt.toNat < s.len.toNat) :
    stepEncRead s = .next (encTake (nextBytes 3 s) (asked (.inRead 3) rest s)) := by
  rw [stepEncRead, withRead_answered ha hl, if_neg]
  rw [nextBytes_length_of_input hl, readSize]; omega

/-- One byte is asked for, and one is there. -/
theorem nextBytes_one {p : Byte} {tail : List Byte} (hl : s.env.input.length = s.len.toNat)
    (hd : s.env.input.drop s.icnt.toNat = p :: tail) : nextBytes 1 s = [p] := by
  have hlen := congrArg List.length hd
  simp only [List.length_drop, List.length_cons] at hlen
  rw [nextBytes, hd, readSize, show min 1 (s.len.toNat - s.icnt.toNat) = 1 by omega]
  rfl

/-- DEC_HDR takes the padding byte (R165). -/
theorem stepDecHdr_answered {p : Byte} {tail : List Byte} (ha : s.env.answers = .ok :: rest)
    (hl : s.env.input.length = s.len.toNat) (hd : s.env.input.drop s.icnt.toNat = p :: tail) :
    stepDecHdr s = .next (decTakePad p (asked (.inRead 1) rest s)) := by
  rw [stepDecHdr, withRead_answered ha hl, nextBytes_one hl hd]

end Reads

section PaddingByte

/-! ## The padding byte in hand (R165) -/

variable {p : Byte} {s : State}

theorem decTakePad_format (h : 2 < p.toNat ∨ (s.gtot = 0 ∧ p ≠ 0)) :
    decTakePad p s = streamRaise .format { s with icnt := 1 } := by
  unfold decTakePad
  obtain h | h := h
  · exact if_pos h
  · dsimp only
    split
    · rfl
    · rfl

theorem decTakePad_lone (hg : s.gtot = 0) (hp : p = 0) :
    decTakePad p s = streamFinish .noError { s with icnt := 1, st := { s.st with pad := 0 } } := by
  subst hp; simp [decTakePad, hg]

theorem decTakePad_groups (hg : s.gtot ≠ 0) (hp : p.toNat ≤ 2) :
    decTakePad p s = { s with icnt := 1, st := { s.st with pad := p.extractLsb' 0 2, phase := .decRead } } := by
  unfold decTakePad
  dsimp only
  rw [if_neg (by omega), if_neg (fun h => hg h.1), if_neg hg]
  rfl

end PaddingByte

section LastByte

/-! ## After a byte of DECODE is written (R167) -/

variable {s : State}

theorem decAfterWrite_last (h : s.st.bidx + 1 = s.wlim ∧ s.gcnt + 1 = s.gtot) :
    decAfterWrite s = streamFinish .noError (groupDone s) := by
  rw [decAfterWrite, if_pos h.1]
  exact if_pos h.2

/-- Short of the last byte of the last group the command runs on. -/
theorem decAfterWrite_busy (h : ¬(s.st.bidx + 1 = s.wlim ∧ s.gcnt + 1 = s.gtot)) :
    (decAfterWrite s).st.busy = s.st.busy := by
  unfold decAfterWrite
  split
  case isTrue hgroup =>
    dsimp only
    have htotal : (groupDone s).gcnt ≠ (groupDone s).gtot := fun htotal => h ⟨hgroup, htotal⟩
    rw [if_neg htotal]
    rfl
  case isFalse => rfl

end LastByte

section Exits

/-! ## Every exit of a running stream command (R152)

`coreStep_runsOnOrEnds` says that a CORE step ends the command by `streamFinish` or `streamRaise` or lets it run on. Here the ends are
told apart: which request the phase made, how the host answered, and what the step had already done to the registers. -/

/-- What `finish(E)` leaves, field by field (R152). -/
theorem streamFinish_eq (e : ErrCode) (s : State) : streamFinish e s = { s with
    rk := zeroRk
    st := { s.st with
      inOpen := false, outOpen := false, rkv := false, rkn := 0, phase := .idle, busy := false, bidx := 0
      done := true, err := e }
    env := { s.env with
      trace := (if s.st.outOpen then [.request .outClose] else [])
        ++ (if s.st.inOpen then [.request .inClose] else []) ++ s.env.trace } } := by
  unfold streamFinish closeIn closeOut
  cases hi : s.st.inOpen <;> cases ho : s.st.outOpen <;> simp [hi, ho, tell, clearSchedule, goIdle, finish]

/-- Either end of a stream command is `streamFinish` but for the trust in the output (R171). -/
theorem eq_streamFinish_of_end {e : ErrCode} {u t : State} (h : t = streamFinish e u ∨ t = streamRaise e u) :
    t = { streamFinish e u with env := { (streamFinish e u).env with outputTrusted := t.env.outputTrusted } } := by
  obtain rfl | rfl := h <;> rfl

/-- The request, the answer and the error code of an exit, by the phase it is made in (R159 to R161, R165 to R167). -/
def ExitCode (s : State) (r : Request) (a : Answer) (e : ErrCode) : Prop :=
  (s.st.phase = .encHdr ∧ r = .outWrite (s.st.pad.setWidth 8) ∧ a = .error ∧ e = .ioWrite)
  ∨ (s.st.phase = .encRead ∧ r = .inRead 3 ∧
      (a = .error ∧ e = .ioRead ∨ a = .ok ∧ s.len.toNat ≤ s.icnt.toNat ∧ e = .noError))
  ∨ (s.st.phase = .encWrite ∧ r = .outWrite (groupByte s.buf s.st.bidx) ∧ a = .error ∧ e = .ioWrite)
  ∨ (s.st.phase = .decHdr ∧ r = .inRead 1 ∧
      (a = .error ∧ e = .ioRead
      ∨ a = .ok ∧ ∃ p, s.env.input[s.icnt.toNat]? = some p ∧
        (s.gtot = 0 ∧ p = 0 ∧ e = .noError ∨ (2 < p.toNat ∨ s.gtot = 0 ∧ p ≠ 0) ∧ e = .format)))
  ∨ (s.st.phase = .decRead ∧ r = .inRead 3 ∧ a = .error ∧ e = .ioRead)
  ∨ (s.st.phase = .decWrite ∧ r = .outWrite (groupByte s.buf s.st.bidx) ∧
      (a = .error ∧ e = .ioWrite ∨ a = .ok ∧ s.st.bidx + 1 = s.wlim ∧ s.gcnt + 1 = s.gtot ∧ e = .noError))

/-- From `s`, the exit step has made the request `r`, taken one answer and reached `u`: only the last step's own progress shows in
the registers. -/
structure ExitProgress (s : State) (r : Request) (rest : List Answer) (u : State) : Prop where
  frame : RunningFrame s u
  answers : u.env.answers = rest
  trace : u.env.trace = .request r :: s.env.trace
  buf : u.buf = s.buf
  icnt : u.icnt = s.icnt ∨ (s.st.phase = .decHdr ∧ u.icnt = 1)
  counts : u.gcnt = s.gcnt ∧ u.ocnt = s.ocnt ∨ (s.st.phase = .decWrite ∧ u.gcnt = s.gcnt + 1 ∧ u.ocnt = s.ocnt + 1)
  pad : u.st.pad = s.st.pad ∨ s.st.phase = .decHdr

/-- An exit right after the answer has changed no register yet. -/
theorem exitProgress_asked (s : State) (r : Request) (rest : List Answer) : ExitProgress s r rest (asked r rest s) :=
  ⟨rfl, rfl, rfl, rfl, .inl rfl, .inl ⟨rfl, rfl⟩, .inl rfl⟩

/-- The step from `s` to `t` ends the stream command in progress. -/
def Exits (s t : State) : Prop :=
  ∃ r a rest e u, s.env.answers = a :: rest ∧ ExitCode s r a e ∧ ExitProgress s r rest u
    ∧ (t = streamFinish e u ∨ t = streamRaise e u)

section Phases

variable {s t : State} (hb : s.st.busy = true) (ht : t.st.busy = false)
include hb ht

/-- A step that writes a byte ends the command in an error answer, or where the phase does after an Ok answer. -/
theorem withWrite_exits {b : Byte} {after : State → State} (h : withWrite b s after = .next t)
    (hcode : ExitCode s (.outWrite b) .error .ioWrite)
    (hafter : ∀ rest, s.env.answers = .ok :: rest → t = after (wrote b (asked (.outWrite b) rest s)) → Exits s t) :
    Exits s t := by
  obtain ⟨-, rfl⟩ | ⟨rest, ha, rfl⟩ | ⟨rest, ha, hok⟩ := withWrite_next h
  · simp [hb] at ht
  · exact ⟨_, _, rest, _, _, ha, hcode, exitProgress_asked _ _ _, .inr rfl⟩
  · exact hafter rest ha hok

/-- A step that reads ends the command in an error answer, or where the phase does with the bytes. -/
theorem withRead_exits {k : Nat} {use : List Byte → State → Result} (h : withRead k s use = .next t)
    (hcode : ExitCode s (.inRead k) .error .ioRead)
    (huse : ∀ rest, s.env.answers = .ok :: rest → s.env.input.length = s.len.toNat →
      use (nextBytes k s) (asked (.inRead k) rest s) = .next t → Exits s t) : Exits s t := by
  obtain ⟨-, rfl⟩ | ⟨rest, ha, rfl⟩ | ⟨rest, ha, hl, hok⟩ := withRead_next h
  · simp [hb] at ht
  · exact ⟨_, _, rest, _, _, ha, hcode, exitProgress_asked _ _ _, .inr rfl⟩
  · exact huse rest ha hl hok

/-- ENC_HDR ends the command by an error only (R159). -/
theorem stepEncHdr_exits (hp : s.st.phase = .encHdr) (h : stepEncHdr s = .next t) : Exits s t := by
  refine withWrite_exits hb ht h (by simp [ExitCode, hp]) fun rest _ hok => ?_
  simp [hok, hb] at ht

/-- ENC_READ ends it also at the end of the input (R160, R170). -/
theorem stepEncRead_exits (hp : s.st.phase = .encRead) (h : stepEncRead s = .next t) : Exits s t := by
  refine withRead_exits hb ht h (by simp [ExitCode, hp]) fun rest ha hl hok => ?_
  by_cases hend : s.len.toNat ≤ s.icnt.toNat
  · cases (stepEncRead_end ha hl hend).symm.trans h
    exact ⟨.inRead 3, .ok, rest, .noError, _, ha, by simp [ExitCode, hp, hend], exitProgress_asked _ _ _, .inl rfl⟩
  · cases (stepEncRead_group ha hl (by omega)).symm.trans h
    simp [hb] at ht

/-- ENC_WRITE ends it by an error only (R161). -/
theorem stepEncWrite_exits (hp : s.st.phase = .encWrite) (h : stepEncWrite s = .next t) : Exits s t := by
  refine withWrite_exits hb ht h (by simp [ExitCode, hp]) fun rest _ hok => ?_
  have hrun : RunningFrame s t := hok ▸ encAfterWrite_runningFrame rfl
  simp [hrun.busy, hb] at ht

/-- DEC_HDR ends it also at a bad padding byte, and at a lone 0 (R165). -/
theorem stepDecHdr_exits (hp : s.st.phase = .decHdr) (h : stepDecHdr s = .next t) : Exits s t := by
  refine withRead_exits hb ht h (by simp [ExitCode, hp]) fun rest ha hl hok => ?_
  cases hd : s.env.input.drop s.icnt.toNat with
  | nil => simp [nextBytes, hd] at hok
  | cons p tail =>
    have hbyte : s.env.input[s.icnt.toNat]? = some p := List.head?_drop.symm.trans (congrArg List.head? hd)
    have progress (pad : BitVec 2) : ExitProgress s (.inRead 1) rest
        { asked (.inRead 1) rest s with icnt := 1, st := { s.st with pad := pad } } :=
      ⟨rfl, rfl, rfl, rfl, .inr ⟨hp, rfl⟩, .inl ⟨rfl, rfl⟩, .inr hp⟩
    cases (stepDecHdr_answered ha hl hd).symm.trans h
    by_cases hbad : 2 < p.toNat ∨ (s.gtot = 0 ∧ p ≠ 0)
    · exact ⟨.inRead 1, .ok, rest, .format, _, ha, by simpa [ExitCode, hp, hbyte] using hbad, progress s.st.pad,
        .inr (decTakePad_format hbad)⟩
    · by_cases hg : s.gtot = 0
      · have hzero : p = 0 := by
          by_contra hne
          exact hbad (.inr ⟨hg, hne⟩)
        exact ⟨.inRead 1, .ok, rest, .noError, _, ha, by simp [ExitCode, hp, hbyte, hg, hzero], progress 0,
          .inl (decTakePad_lone hg hzero)⟩
      · rw [decTakePad_groups (s := asked (.inRead 1) rest s) hg (by omega)] at ht
        simp [hb] at ht

/-- DEC_READ ends it by an error only (R166). -/
theorem stepDecRead_exits (hp : s.st.phase = .decRead) (h : stepDecRead s = .next t) : Exits s t := by
  refine withRead_exits hb ht h (by simp [ExitCode, hp]) fun rest _ _ hok => ?_
  cases hok
  simp [hb] at ht

/-- DEC_WRITE ends it also with the last byte of the last group (R167). -/
theorem stepDecWrite_exits (hp : s.st.phase = .decWrite) (h : stepDecWrite s = .next t) : Exits s t := by
  refine withWrite_exits hb ht h (by simp [ExitCode, hp]) fun rest ha hok => ?_
  by_cases hlast : s.st.bidx + 1 = s.wlim ∧ s.gcnt + 1 = s.gtot
  · rw [decAfterWrite_last (s := wrote _ (asked _ rest s)) hlast] at hok
    have progress (b : Byte) : ExitProgress s (.outWrite b) rest (groupDone (wrote b (asked (.outWrite b) rest s))) :=
      ⟨rfl, rfl, rfl, rfl, .inl rfl, .inr ⟨hp, rfl, rfl⟩, .inl rfl⟩
    exact ⟨_, .ok, rest, .noError, _, ha, by simpa [ExitCode, hp] using hlast, progress _, .inl hok⟩
  · rw [hok, decAfterWrite_busy (s := wrote _ (asked _ rest s)) hlast] at ht
    simp [hb] at ht

/-- Every CORE step that ends the command in progress is one of these exits. -/
theorem coreStep_exits (h : coreStep s = .next t) : Exits s t := by
  obtain ⟨-, hidle⟩ | ⟨hp, h⟩ | ⟨hp, h⟩ | ⟨hp, h⟩ | ⟨hp, h⟩ | ⟨hp, h⟩ | ⟨hp, h⟩ := coreStep_cases h
  · cases hidle; simp [hb] at ht
  · exact stepEncHdr_exits hb ht hp h
  · exact stepEncRead_exits hb ht hp h
  · exact stepEncWrite_exits hb ht hp h
  · exact stepDecHdr_exits hb ht hp h
  · exact stepDecRead_exits hb ht hp h
  · exact stepDecWrite_exits hb ht hp h

/-- Every step but a reset that ends the command in progress is a CORE step, whether the host gives it a turn or has no action. -/
theorem step_exits (h : step s = .next t) (hreset : ∀ rest, s.env.actions ≠ .reset :: rest) :
    ∃ acts, Exits (s.awaiting acts) t := by
  obtain ⟨-, hcore⟩ | ⟨a, rest, ha, hact⟩ := step_cases h
  · exact ⟨s.env.actions, coreStep_exits hb ht hcore⟩
  · refine ⟨rest, ?_⟩
    have hne : a ≠ .reset := fun heq => hreset rest (heq ▸ ha)
    by_cases hturn : a = .coreTurn
    · subst hturn
      exact coreStep_exits (s := s.awaiting rest) hb ht hact
    · have hrun := (hostAct_busyFrame (s := s.awaiting rest) hact hb hne hturn).busy
      rw [ht] at hrun
      exact nomatch hrun.trans hb

end Phases

/-! ## The exits of a start step (R151, R158, R162, R163) -/

/-- The start step from `s` to `t` ends its command with an error of its own, BUF untouched. -/
def StartFails (s t : State) : Prop :=
  ∃ e u, t = streamRaise e u ∧ (e = .config ∨ e = .ioOpen ∨ e = .format) ∧ u.buf = s.buf

theorem encodeStart_fails {s t : State} (h : encodeStart s = some t) (ht : t.st.busy = false) : StartFails s t := by
  obtain ⟨-, rfl⟩ | ⟨r, -, ⟨rest, -, rfl⟩ | ⟨rest, -, rfl⟩ | ⟨rest, -, rfl⟩⟩ := encodeStart_some h
  · exact ⟨.config, _, rfl, .inl rfl, rfl⟩
  · exact ⟨.ioOpen, _, rfl, .inr (.inl rfl), rfl⟩
  · exact ⟨.ioOpen, _, rfl, .inr (.inl rfl), rfl⟩
  · exact nomatch ht

theorem decodeStart_fails {s t : State} (h : decodeStart s = some t) (ht : t.st.busy = false) : StartFails s t := by
  obtain ⟨-, rfl⟩ | ⟨r, -, ⟨rest, -, rfl⟩ | ⟨rest, -, -, rfl⟩ | ⟨rest, -, -, rfl⟩ | ⟨rest, -, -, rfl⟩⟩ := decodeStart_some h
  · exact ⟨.config, _, rfl, .inl rfl, rfl⟩
  · exact ⟨.ioOpen, _, rfl, .inr (.inl rfl), rfl⟩
  · exact ⟨.format, _, rfl, .inr (.inr rfl), rfl⟩
  · exact ⟨.ioOpen, _, rfl, .inr (.inl rfl), rfl⟩
  · exact nomatch ht

/-- A start step that has happened and leaves the CORE idle has failed. -/
theorem exec_stream_fails {i : Instr} {s t : State} (hi : i = .encode ∨ i = .decode) (h : exec i s = .next t)
    (ht : t.st.busy = false) (hact : t.env.actions = s.env.actions) : StartFails s t := by
  have reissued (j : Instr) (ht : t = reissue j s) : StartFails s t :=
    absurd (ht ▸ hact) (List.cons_ne_self _ _)
  obtain rfl | rfl := hi
  · obtain ⟨⟨⟩, -⟩ | ⟨⟨⟩, -⟩ | ⟨⟨⟩, -⟩ | ⟨⟨⟩, -⟩ | ⟨-, he | ⟨-, ho⟩⟩ | ⟨⟨⟩, -⟩ | ⟨⟨⟩, -⟩ := exec_next h
    · exact encodeStart_fails he ht
    · exact reissued _ ho
  · obtain ⟨⟨⟩, -⟩ | ⟨⟨⟩, -⟩ | ⟨⟨⟩, -⟩ | ⟨⟨⟩, -⟩ | ⟨⟨⟩, -⟩ | ⟨-, he | ⟨-, ho⟩⟩ | ⟨⟨⟩, -⟩ := exec_next h
    · exact decodeStart_fails he ht
    · exact reissued _ ho

end Exits

/-! ## The statements -/

/-- Settles O60: each byte's place by `extractLsb'_unpack`, and the short groups as the OR of their shifted bytes. -/
theorem unpackZeroPadsGroup : Obligations.UnpackZeroPadsGroup := by
  unfold Obligations.UnpackZeroPadsGroup
  refine ⟨fun bs _ j => extractLsb'_unpack bs j.isLt, rfl, fun a b c => ⟨?_, ?_, ?_⟩⟩
  · simp [unpack]
  · simp [unpack]
  · simp [unpack, BitVec.shiftLeft_or_distrib, ← BitVec.shiftLeft_add, BitVec.or_assoc]

/-- Settles O24: PADCNT's result is `padcount` of LEN, by the residue of LEN and at each concrete length. -/
theorem padcntResult : Obligations.PadcntResult := by
  unfold Obligations.PadcntResult
  refine ⟨by decide, fun s => ⟨BitVec.ofNat 32 (padcount s.len.toNat), exec_padcnt s, ?_⟩⟩
  have of_residue {m : Nat} (h : s.len.toNat % 3 = m) :
      BitVec.ofNat 32 (padcount s.len.toNat) = BitVec.ofNat 32 ((3 - m) % 3) := by rw [padcount, h]
  have of_len {L : Word} (h : s.len = L) :
      BitVec.ofNat 32 (padcount s.len.toNat) = BitVec.ofNat 32 (padcount L.toNat) := by rw [h]
  rw [toNat_padcountWord]
  exact ⟨rfl, add_padcount_mod _, padcount_le _, of_residue, of_residue, of_residue, of_len, of_len, of_len, of_len, of_len, of_len⟩

/-- Settles O32: ENC_READ's three outcomes; the group is the unpacked bytes of the read. -/
theorem encodeReadStep : Obligations.EncodeReadStep := by
  unfold Obligations.EncodeReadStep
  intro s rest hp
  rw [coreStep_encRead hp]
  refine ⟨fun ha => ?_, fun ha hl hend => ?_, fun ha hl hmore => ?_⟩
  · exact ⟨_, withRead_error ha, by simp⟩
  · exact ⟨_, stepEncRead_end ha hl hend, by simp⟩
  · refine ⟨unpack (nextBytes 3 s), encryptGroup s.cfg (subkeys s) (unpack (nextBytes 3 s)), fun j => ?_,
      lowBlock_encryptGroup _ _ _, highBlock_encryptGroup _ _ _, ?_⟩
    · rw [extractLsb'_unpack _ j.isLt, nextBytes_getD j.isLt]
    · rw [stepEncRead_group ha hl hmore, encTake, nextBytes_length_of_input hl]
      rfl

/-- Settles O33: DEC_HDR's outcomes by the padding byte it takes. -/
theorem decodeHeaderStep : Obligations.DecodeHeaderStep := by
  unfold Obligations.DecodeHeaderStep
  intro s rest hp
  rw [coreStep_decHdr hp]
  refine ⟨fun ha => ⟨_, withRead_error ha, by simp⟩, fun p tail ha hl hd => ?_⟩
  rw [stepDecHdr_answered ha hl hd]
  refine ⟨fun hbad => ?_, fun hg hzero => ?_, fun hg hle => ?_⟩
  · rw [decTakePad_format (s := asked (.inRead 1) rest s) hbad]
    exact ⟨_, rfl, by simp⟩
  · rw [decTakePad_lone (s := asked (.inRead 1) rest s) hg hzero]
    exact ⟨_, rfl, by simp⟩
  · rw [decTakePad_groups (s := asked (.inRead 1) rest s) hg hle]
    rfl

/-- Settles O35: `step_exits` names the request, answer and progress of every exit, `streamFinish_eq` what all exits share. -/
theorem streamExitClosesAndFrees : Obligations.StreamExitClosesAndFrees := by
  unfold Obligations.StreamExitClosesAndFrees
  refine ⟨fun s t h hb ht hreset => ?_, fun i s t hi h ht hact => ?_, streamFinish_eq⟩
  · obtain ⟨acts, r, a, rest, e, u, ha, hcode, hprogress, hend⟩ := step_exits hb ht h hreset
    obtain ⟨hframe, hanswers, htrace, hbuf, hicnt, hcounts, hpad⟩ := hprogress
    rw [eq_streamFinish_of_end hend, streamFinish_eq]
    refine ⟨rfl, rfl, rfl, rfl, rfl, rfl, rfl, rfl, hbuf, hicnt, hcounts, congrArg (·.gtot) hframe, hpad,
      ⟨r, a, rest, ha, hanswers, ?_, hcode⟩, congrArg (·.key) hframe, congrArg (·.nr) hframe, congrArg (·.din) hframe,
      congrArg (·.sk) hframe, congrArg (·.dout) hframe, congrArg (·.len) hframe⟩
    have hin : u.st.inOpen = s.st.inOpen := congrArg (·.st.inOpen) hframe
    have hout : u.st.outOpen = s.st.outOpen := congrArg (·.st.outOpen) hframe
    simp only [hin, hout, htrace]
    rfl
  · obtain ⟨e, u, rfl, he, hbuf⟩ := exec_stream_fails hi h ht hact
    simp [he, hbuf]

end Sys2Proof.Machine

/-! # The control commands NOP and CLR (44_control.md R190, R191)

One equation per command, the words that OP = 0 leaves ILLEGAL, and what CLR does to STATUS as the host reads it; then the two
statements, whose busy and OVR clauses are those of 10_state.md R43. -/

namespace Sys2Proof.Machine

section ControlCommands

theorem exec_nop (s : State) : exec .nop s = .next { s with st := { s.st with err := .noError, done := true } } := rfl

theorem exec_clr (s : State) :
    exec .clr s = .next { s with st := { s.st with err := .noError, ovr := false, done := false } } := rfl

/-- With OP = 0 every word but NOP's own is ILLEGAL (30_encoding.md R75). -/
theorem decode_error_of_fieldOp_zero {w : Word} (hop : fieldOp w = 0) (hne : w ≠ 0) : ∃ e, Sys2Proof.decode w = .error e := by
  cases hd : Sys2Proof.decode w with
  | error e => exact ⟨e, rfl⟩
  | ok i =>
    have habove : fieldAboveOp w = 0 := by simpa [hop] using (exists_decode_ok_iff w).1 ⟨i, hd⟩
    have hw : w = 0 := by rw [← fieldAboveOp_append_fieldOp w, habove, hop]; rfl
    exact absurd hw hne

/-- The bits of STATUS that CLR leaves as they are, in the order of `statusWord`: the fields above ERR, not ERR, not OVR, RKV,
not DONE, BUSY (10_state.md R22). -/
def clrKeeps : Word := BitVec.allOnes 24 ++ 0#4 ++ 0#1 ++ BitVec.allOnes 1 ++ 0#1 ++ BitVec.allOnes 1

theorem append_and_clrKeeps (above : BitVec 24) (err : BitVec 4) (ovr rkv done busy : BitVec 1) :
    (above ++ err ++ ovr ++ rkv ++ done ++ busy : Word) &&& clrKeeps = above ++ 0#4 ++ 0#1 ++ rkv ++ 0#1 ++ busy := by
  -- The type `Word` hides the outermost append from `simp`.
  refine BitVec.and_append.trans ?_
  simp only [BitVec.and_append, BitVec.and_allOnes, BitVec.and_zero]

/-- Clearing ERR, OVR and DONE clears exactly their bits of STATUS. -/
theorem statusWord_cleared (st : Status) :
    statusWord { st with err := .noError, ovr := false, done := false } = statusWord st &&& clrKeeps :=
  (append_and_clrKeeps _ _ _ _ _ _).symm

end ControlCommands

/-- Settles O45: the equation of NOP, the words with OP = 0, and the dropped write of `cmdWriteIssuesCommand`. -/
theorem nopResult : Obligations.NopResult := by
  unfold Obligations.NopResult
  obtain ⟨-, hdropped, -⟩ := cmdWriteIssuesCommand
  exact ⟨by decide, exec_nop, fun _ => decode_error_of_fieldOp_zero, fun s rest => hdropped s rest _⟩

/-- Settles O46: the equation of CLR, its mask on STATUS, and the dropped write and the clearing of OVR of `busyWritesAreDropped`. -/
theorem clrResult : Obligations.ClrResult := by
  unfold Obligations.ClrResult
  obtain ⟨hdropped, hcleared, -⟩ := busyWritesAreDropped
  refine ⟨by decide, exec_clr, fun s rest hb => hdropped s rest 0 _ hb (.inl rfl), fun s t h => ?_, fun s t h hs ht => ?_⟩
  · cases (exec_clr s).symm.trans h
    rw [statusWord_cleared]
    constructor <;> intro hword <;> rw [hword] <;> decide
  · exact (hcleared s t h hs ht).imp_right And.right

end Sys2Proof.Machine

/-! # The encoding, both ways (30_encoding.md R70 to R76)

A word is the append of its fields, so a legal word is the encoding of the command it names. The statements on the encoding follow. -/

namespace Sys2Proof.Machine

section Encoding

/-- A command word is its fields of format C, from bit 31 down (30_encoding.md R70). -/
theorem append_fields (w : Word) :
    (fieldRsvHigh w ++ fieldIdx w ++ fieldRsvLow w ++ BitVec.ofBool (fieldKsel w) ++ fieldOp w : Word) = w := by
  have hksel : BitVec.ofBool (fieldKsel w) = w.extractLsb' 4 1 := by
    ext i hi
    simp [fieldKsel, show i = 0 by omega]
  rw [hksel, fieldRsvHigh, fieldIdx, fieldRsvLow, fieldOp]
  rw [BitVec.extractLsb'_append_extractLsb'_eq_extractLsb' (by rfl), BitVec.extractLsb'_append_extractLsb'_eq_extractLsb' (by rfl),
    BitVec.extractLsb'_append_extractLsb'_eq_extractLsb' (by rfl), BitVec.extractLsb'_append_extractLsb'_eq_extractLsb' (by rfl)]
  exact BitVec.extractLsb'_eq_self

theorem decode_encode {i : Instr} (h : i.wellFormed = true) : decode (encode i) = .ok i := by
  cases i with
  | feistelk idx => revert idx; decide
  | roundk idx => revert idx; decide
  | _ => rfl

theorem encode_mem_legalWords {i : Instr} (h : i.wellFormed = true) : encode i ∈ legalWords := by
  cases i with
  | feistelk idx => revert idx; decide
  | roundk idx => revert idx; decide
  | _ => decide

theorem exists_decode_of_mem_legalWords {w : Word} (hw : w ∈ legalWords) : ∃ i, decode w = .ok i := by
  simp only [legalWords, List.mem_append, List.mem_map, List.mem_range] at hw
  obtain (⟨n, hn, rfl⟩ | ⟨n, hn, rfl⟩) | ⟨n, hn, rfl⟩ := hw
  · interval_cases n <;> exact ⟨_, rfl⟩
  · interval_cases n <;> exact ⟨_, rfl⟩
  · interval_cases n <;> exact ⟨_, rfl⟩

/-- A legal word with OP other than 4 and 5 is its OP alone. -/
theorem formatC_of_fieldAboveOp {w : Word} {op : BitVec 4} (habove : fieldAboveOp w = 0) (hop : fieldOp w = op) :
    formatC op 0 0 = w := by
  rw [← fieldAboveOp_append_fieldOp w, habove, hop]
  clear habove hop
  revert op; decide

/-- A word with its reserved bits 0 is format C of its other fields. -/
theorem formatC_of_fields {w : Word} {op : BitVec 4} (hlow : fieldRsvLow w = 0) (hhigh : fieldRsvHigh w = 0)
    (hop : fieldOp w = op) : formatC op (BitVec.ofBool (fieldKsel w)) (fieldIdx w) = w := by
  rw [← hop]
  conv_rhs => rw [← append_fields w, hlow, hhigh]
  rfl

/-- A legal word with OP 4 or 5 is the encoding of the keyed command it names. -/
theorem encode_of_decodeKeyed {w : Word} {op : BitVec 4} {fromSk i : Instr} {fromRk : BitVec 4 → Instr}
    (h : decodeKeyed w fromSk fromRk = .ok i) (hop : fieldOp w = op) (hSk : encode fromSk = formatC op 0 0)
    (hRk : ∀ idx, encode (fromRk idx) = formatC op 1 idx) (wfSk : fromSk.wellFormed = true)
    (wfRk : ∀ idx, (fromRk idx).wellFormed = legalIdx idx) : encode i = w ∧ i.wellFormed = true := by
  obtain ⟨hlow, hhigh, hidx⟩ := exists_decodeKeyed_ok_iff.1 ⟨i, h⟩
  have hword := formatC_of_fields hlow hhigh hop
  rw [eq_of_decodeKeyed_ok h]
  cases hksel : fieldKsel w with
  | true =>
    simp only [hksel, if_true] at hidx hword ⊢
    exact ⟨(hRk _).trans hword, (wfRk _).trans (decide_eq_true hidx)⟩
  | false =>
    simp only [hksel, Bool.false_eq_true, if_false] at hidx hword ⊢
    rw [hidx] at hword
    exact ⟨hSk.trans hword, wfSk⟩

theorem encode_of_decode {w : Word} {i : Instr} (h : decode w = .ok i) : encode i = w ∧ i.wellFormed = true := by
  unfold Sys2Proof.decode at h
  split at h
  case h_5 hop => exact encode_of_decodeKeyed (op := 4) h (BitVec.eq_of_toNat_eq hop) rfl (fun _ => rfl) rfl fun _ => rfl
  case h_6 hop => exact encode_of_decodeKeyed (op := 5) h (BitVec.eq_of_toNat_eq hop) rfl (fun _ => rfl) rfl fun _ => rfl
  case h_16 => cases h
  all_goals
    rename_i hop
    obtain ⟨habove, rfl⟩ := decodePlain_ok h
    exact ⟨formatC_of_fieldAboveOp habove (BitVec.eq_of_toNat_eq hop), rfl⟩

end Encoding

/-! ## The statements -/

/-- Settles O3: `decode_encode` and `encode_of_decode`. -/
theorem decodeEncodeAgree : Obligations.DecodeEncodeAgree :=
  ⟨fun _ => decode_encode, fun _ _ => encode_of_decode⟩

/-- Settles O2: a legal word is an encoding, the encodings are listed, and the listed words decode. -/
theorem legalWordsAreExactlyThirtyThree : Obligations.LegalWordsAreExactlyThirtyThree := by
  unfold Obligations.LegalWordsAreExactlyThirtyThree
  refine ⟨rfl, by decide, fun w => ⟨fun ⟨i, hi⟩ => ?_, exists_decode_of_mem_legalWords⟩⟩
  obtain ⟨rfl, hwf⟩ := encode_of_decode hi
  exact encode_mem_legalWords hwf

/-- Settles O4: the decoder evaluated on each spelled word. -/
theorem spelledWordsDecode : Obligations.SpelledWordsDecode := by
  unfold Obligations.SpelledWordsDecode
  decide

end Sys2Proof.Machine

/-! # The block cipher undoes itself (41_feistel.md R117, R123; 42_block_cipher.md R131 to R137; 43_stream_codec.md R156, R157)

The one idea: a round after a half-swapped round with the same subkey gives back the half-swapped block. Encryption and decryption
differ only in the order of their subkeys, so every law of `decrypt` is one of `encrypt`. Then one equation per command by RKV, and
the statements. -/

namespace Sys2Proof.Machine

section RoundInverse

/-! ## A round undone (R117) -/

theorem block_ext {a b : Block} (hleft : leftHalf a = leftHalf b) (hright : rightHalf a = rightHalf b) : a = b := by
  rw [← leftHalf_append_rightHalf a, hleft, hright, leftHalf_append_rightHalf]

/-- The inverse of a round (R117). -/
def unround (cfg : Config) (b : Block) (k : Byte) : Block :=
  (rightHalf b ^^^ feistel cfg (leftHalf b) k) ++ leftHalf b

theorem unround_round (cfg : Config) (b : Block) (k : Byte) : unround cfg (round cfg b k) k = b := by
  apply block_ext <;> simp [unround, BitVec.xor_comm]

theorem round_unround (cfg : Config) (b : Block) (k : Byte) : round cfg (unround cfg b k) k = b := by
  apply block_ext <;> simp [unround, BitVec.xor_comm]

/-- A round after a half-swapped round with the same subkey leaves the half-swapped block. -/
theorem round_hswap_round (cfg : Config) (b : Block) (k : Byte) : round cfg (hswap (round cfg b k)) k = hswap b := by
  apply block_ext <;> simp

end RoundInverse

section Cipher

/-! ## Encryption and decryption (R131, R133, R137) -/

theorem decrypt_eq_encrypt_reverse (cfg : Config) (ks : List Byte) : decrypt cfg ks = encrypt cfg ks.reverse := rfl

/-- The rounds with the subkeys the other way round undo the rounds, from half-swap to half-swap. -/
theorem rounds_reverse_hswap_rounds (cfg : Config) (ks : List Byte) (b : Block) :
    rounds cfg (hswap (rounds cfg b ks)) ks.reverse = hswap b := by
  induction ks generalizing b with
  | nil => rfl
  | cons k ks ih =>
    calc rounds cfg (hswap (rounds cfg b (k :: ks))) (k :: ks).reverse
      _ = round cfg (rounds cfg (hswap (rounds cfg (round cfg b k) ks)) ks.reverse) k := by simp [rounds]
      _ = hswap b := by rw [ih, round_hswap_round]

@[simp] theorem decrypt_encrypt (cfg : Config) (ks : List Byte) (b : Block) : decrypt cfg ks (encrypt cfg ks b) = b := by
  rw [decrypt, encrypt, rounds_reverse_hswap_rounds, hswap_hswap]

@[simp] theorem encrypt_decrypt (cfg : Config) (ks : List Byte) (b : Block) : encrypt cfg ks (decrypt cfg ks b) = b := by
  have h := decrypt_encrypt cfg ks.reverse b
  rwa [decrypt_eq_encrypt_reverse, List.reverse_reverse] at h

end Cipher

section GroupCipher

/-! ## Groups (R156, R157) -/

theorem group_ext {g h : Group} (hlow : lowBlock g = lowBlock h) (hhigh : highBlock g = highBlock h) : g = h := by
  have append (g : Group) : (highBlock g ++ lowBlock g : BitVec (12 + 12)) = g := by
    rw [highBlock, lowBlock, BitVec.extractLsb'_append_extractLsb'_eq_extractLsb' (by rfl)]
    exact BitVec.extractLsb'_eq_self
  rw [← append g, hlow, hhigh, append]

theorem decryptGroup_eq_encryptGroup_reverse (cfg : Config) (ks : List Byte) :
    decryptGroup cfg ks = encryptGroup cfg ks.reverse :=
  funext fun _ => BitVec.or_comm ..

@[simp] theorem lowBlock_decryptGroup (cfg : Config) (ks : List Byte) (g : Group) :
    lowBlock (decryptGroup cfg ks g) = decrypt cfg ks (lowBlock g) := by
  rw [decryptGroup_eq_encryptGroup_reverse, lowBlock_encryptGroup, decrypt_eq_encrypt_reverse]

@[simp] theorem highBlock_decryptGroup (cfg : Config) (ks : List Byte) (g : Group) :
    highBlock (decryptGroup cfg ks g) = decrypt cfg ks (highBlock g) := by
  rw [decryptGroup_eq_encryptGroup_reverse, highBlock_encryptGroup, decrypt_eq_encrypt_reverse]

@[simp] theorem decryptGroup_encryptGroup (cfg : Config) (ks : List Byte) (g : Group) :
    decryptGroup cfg ks (encryptGroup cfg ks g) = g := by
  apply group_ext <;> simp

@[simp] theorem encryptGroup_decryptGroup (cfg : Config) (ks : List Byte) (g : Group) :
    encryptGroup cfg ks (decryptGroup cfg ks g) = g := by
  apply group_ext <;> simp

end GroupCipher

section CipherCommands

/-! ## One equation per command and outcome (41_feistel.md R123; 42_block_cipher.md R135, R136; 43_stream_codec.md R156, R157) -/

theorem exec_roundk_loaded {s : State} {i : Fin 9} (h : i.val < s.st.rkn.toNat) :
    exec (.roundk (BitVec.ofNat 4 i.val)) s
      = .next (finishResult (zextWord (round s.cfg (dinBlock s) s.rk[i])) (accept s)) :=
  withIndexedKey_loaded (s := accept s) h fun k => zextWord (round s.cfg (dinBlock s) k)

theorem exec_roundk_noKeys {s : State} {idx : BitVec 4} (h : s.st.rkn.toNat ≤ idx.toNat) :
    exec (.roundk idx) s = .next (finish .noKeys (accept s)) :=
  withIndexedKey_noKeys (s := accept s) h fun k => zextWord (round s.cfg (dinBlock s) k)

/-- The word of ROUNDK i is a command for i up to 8 (30_encoding.md R72, R74). -/
theorem decode_roundkWord (i : BitVec 4) : Sys2Proof.decode (0x00000015#32 ||| (i.setWidth 32 <<< 8)) =
    if i.toNat ≤ 8 then .ok (.roundk i) else .error .idxAboveEight := by
  revert i; decide

section Loaded

variable {s : State} (h : s.st.rkv = true)
include h

theorem exec_encblk_loaded :
    exec .encblk s = .next (finishResult (zextWord (encrypt s.cfg (subkeys s) (dinBlock s))) (accept s)) :=
  withSchedule_loaded (s := accept s) h _

theorem exec_decblk_loaded :
    exec .decblk s = .next (finishResult (zextWord (decrypt s.cfg (subkeys s) (dinBlock s))) (accept s)) :=
  withSchedule_loaded (s := accept s) h _

theorem exec_encgrp_loaded :
    exec .encgrp s = .next (finishResult (zextWord (encryptGroup s.cfg (subkeys s) (dinGroup s))) (accept s)) :=
  withSchedule_loaded (s := accept s) h _

theorem exec_decgrp_loaded :
    exec .decgrp s = .next (finishResult (zextWord (decryptGroup s.cfg (subkeys s) (dinGroup s))) (accept s)) :=
  withSchedule_loaded (s := accept s) h _

end Loaded

/-- Without a schedule every block command is NOKEYS. -/
theorem exec_block_noKeys {i : Instr} {s : State} (hi : i = .encblk ∨ i = .decblk ∨ i = .encgrp ∨ i = .decgrp)
    (h : s.st.rkv = false) : exec i s = .next (finish .noKeys (accept s)) := by
  obtain rfl | rfl | rfl | rfl := hi <;> exact withSchedule_none (s := accept s) h _

@[simp] theorem dinGroup_of_zextWord (s : State) (g : Group) : dinGroup { s with din := zextWord g } = g := by
  simp [dinGroup, extractLsb'_zextWord]

@[simp] theorem lowBlock_dinGroup (s : State) : lowBlock (dinGroup s) = s.din.extractLsb' 0 12 :=
  BitVec.extractLsb'_extractLsb'_of_le (by omega)

@[simp] theorem highBlock_dinGroup (s : State) : highBlock (dinGroup s) = s.din.extractLsb' 12 12 :=
  BitVec.extractLsb'_extractLsb'_of_le (by omega)

end CipherCommands

/-! ## The statements -/

/-- Settles O22: the inverse law by `rounds_reverse_hswap_rounds`; on the machine the second command finds the first one's result in
DIN and the same schedule. -/
theorem decryptInvertsEncrypt : Obligations.DecryptInvertsEncrypt := by
  unfold Obligations.DecryptInvertsEncrypt
  refine ⟨fun cfg ks b => ⟨decrypt_encrypt cfg ks b, encrypt_decrypt cfg ks b⟩, fun s h =>
    ⟨⟨_, _, exec_encblk_loaded h, exec_decblk_loaded h, ?_⟩, ⟨_, _, exec_decblk_loaded h, exec_encblk_loaded h, ?_⟩⟩⟩
  · exact congrArg zextWord ((congrArg _ (dinBlock_of_zextWord _ _)).trans (decrypt_encrypt s.cfg (subkeys s) (dinBlock s)))
  · exact congrArg zextWord ((congrArg _ (dinBlock_of_zextWord _ _)).trans (encrypt_decrypt s.cfg (subkeys s) (dinBlock s)))

/-- Settles O19: `unround_round` and `round_unround`. -/
theorem roundIsInvertible : Obligations.RoundIsInvertible :=
  fun cfg k b => ⟨unround_round cfg b k, round_unround cfg b k⟩

/-- Settles O23: one subkey read either way is the same list, and the half-swapped round undoes itself by `round_hswap_round`. -/
theorem oneRoundIsInvolution : Obligations.OneRoundIsInvolution :=
  fun cfg b k => ⟨rfl, rfl, by rw [round_hswap_round, hswap_hswap]⟩

/-- Settles O18: the two outcomes of `withIndexedKey`, and the halves of a round. -/
theorem roundkResult : Obligations.RoundkResult := by
  unfold Obligations.RoundkResult
  refine ⟨fun i => ?_, fun s i hi => ⟨_, exec_roundk_loaded hi, ?_, ?_, extractLsb'_zextWord_high _ 20⟩,
    fun s i => exec_roundk_noKeys⟩
  · rw [decode_roundkWord]
    by_cases hi : i.toNat ≤ 8 <;> simp [hi]
  · rw [extractLsb'_zextWord _ (by omega)]
    exact (leftHalf_round _ _ _).trans (rightHalf_dinBlock s)
  · rw [extractLsb'_zextWord _ (by omega), ← rightHalf_dinBlock, ← leftHalf_dinBlock]
    exact rightHalf_round _ _ _

/-- Settles O21: the equations of ENCBLK and DECBLK by RKV. -/
theorem blockCommandResults : Obligations.BlockCommandResults :=
  ⟨by decide, by decide, fun _ h => ⟨exec_encblk_loaded h, exec_decblk_loaded h⟩,
    fun _ h => ⟨exec_block_noKeys (by simp) h, exec_block_noKeys (by simp) h⟩⟩

/-- Settles O25: the equations of ENCGRP and DECGRP by RKV, and the two blocks of a group. -/
theorem groupCommandResults : Obligations.GroupCommandResults := by
  unfold Obligations.GroupCommandResults
  refine ⟨by decide, by decide, fun s h => ⟨_, _, exec_encgrp_loaded h, ?_, ?_, extractLsb'_zextWord_high _ 8,
    exec_decgrp_loaded h, ?_, ?_, extractLsb'_zextWord_high _ 8⟩,
    fun s h => ⟨exec_block_noKeys (by simp) h, exec_block_noKeys (by simp) h⟩⟩
  all_goals rw [extractLsb'_zextWord _ (by omega)]
  · exact (lowBlock_encryptGroup ..).trans (congrArg _ (lowBlock_dinGroup s))
  · exact (highBlock_encryptGroup ..).trans (congrArg _ (highBlock_dinGroup s))
  · exact (lowBlock_decryptGroup ..).trans (congrArg _ (lowBlock_dinGroup s))
  · exact (highBlock_decryptGroup ..).trans (congrArg _ (highBlock_dinGroup s))

/-- Settles O26: block by block; on the machine as for blocks. -/
theorem decgrpInvertsEncgrp : Obligations.DecgrpInvertsEncgrp := by
  unfold Obligations.DecgrpInvertsEncgrp
  refine ⟨fun cfg ks g => ⟨decryptGroup_encryptGroup cfg ks g, encryptGroup_decryptGroup cfg ks g⟩, fun s h =>
    ⟨_, _, exec_encgrp_loaded h, exec_decgrp_loaded h, ?_⟩⟩
  exact congrArg zextWord ((congrArg _ (dinGroup_of_zextWord _ _)).trans
    (decryptGroup_encryptGroup s.cfg (subkeys s) (dinGroup s)))

end Sys2Proof.Machine

/-! # One CORE step, by the host's answer (43_stream_codec.md R159 to R167, R172; 70_reset_and_hazards.md R236)

An unanswered request holds the CORE, an error answer ends the command, and `Advances` says once what each phase does with Ok. The
statements on single steps are read off it here; the invariants and the laws of whole streams use it after this. -/

namespace Sys2Proof.Machine

section Answers

/-! ## A request unanswered, or answered with an error -/

theorem withRead_unanswered {k : Nat} {s : State} {use : List Byte → State → Result} (ha : s.env.answers = []) :
    withRead k s use = .next s := by
  simp only [withRead, ask_unanswered ha]

variable {b : Byte} {s : State} {after : State → State} {rest : List Answer}

theorem withWrite_unanswered (ha : s.env.answers = []) : withWrite b s after = .next s := by
  simp only [withWrite, ask_unanswered ha]

theorem withWrite_error (ha : s.env.answers = .error :: rest) :
    withWrite b s after = .next (streamRaise .ioWrite (asked (.outWrite b) rest s)) := by
  simp only [withWrite, ask_answered ha]

theorem withWrite_answered (ha : s.env.answers = .ok :: rest) :
    withWrite b s after = .next (after (wrote b (asked (.outWrite b) rest s))) := by
  simp only [withWrite, ask_answered ha]

/-- The one request of each phase's step; an idle CORE makes none. -/
def phaseRequest (s : State) : Request :=
  match s.st.phase with
  | .encHdr => .outWrite (s.st.pad.setWidth 8)
  | .encWrite | .decWrite => .outWrite (groupByte s.buf s.st.bidx)
  | .decHdr => .inRead 1
  | .idle | .encRead | .decRead => .inRead 3

/-- The error code of an error answer in each phase (60_exceptions.md R200). -/
def phaseError : Phase → ErrCode
  | .encHdr | .encWrite | .decWrite => .ioWrite
  | .idle | .encRead | .decHdr | .decRead => .ioRead

theorem coreStep_unanswered (ha : s.env.answers = []) : coreStep s = .next s := by
  unfold coreStep
  split
  · rfl
  · exact withWrite_unanswered ha
  · exact withRead_unanswered ha
  · exact withWrite_unanswered ha
  · exact withRead_unanswered ha
  · exact withRead_unanswered ha
  · exact withWrite_unanswered ha

theorem coreStep_error (hp : s.st.phase ≠ .idle) (ha : s.env.answers = .error :: rest) :
    coreStep s = .next (streamRaise (phaseError s.st.phase) (asked (phaseRequest s) rest s)) := by
  unfold coreStep phaseRequest
  split
  case h_1 hidle => exact absurd hidle hp
  all_goals rename_i hphase; rw [hphase]
  · exact withWrite_error ha
  · exact withRead_error ha
  · exact withWrite_error ha
  · exact withRead_error ha
  · exact withRead_error ha
  · exact withWrite_error ha

/-- Bytes of an input stream of another length than LEN are refused in every reading phase. -/
theorem coreStep_lengthDiffers (ha : s.env.answers = .ok :: rest)
    (hp : s.st.phase = .encRead ∨ s.st.phase = .decHdr ∨ s.st.phase = .decRead) (hl : s.env.input.length ≠ s.len.toNat) :
    coreStep s = .refused .inputStreamLength := by
  obtain hp | hp | hp := hp <;> simp only [coreStep, hp] <;> exact withRead_lengthDiffers ha hl

end Answers

section Ok

/-! ## A request answered Ok -/

/-- The state once the host has answered Ok to the writing of byte BIDX of BUF. -/
def byteWritten (rest : List Answer) (s : State) : State :=
  wrote (groupByte s.buf s.st.bidx) (asked (.outWrite (groupByte s.buf s.st.bidx)) rest s)

/-- Everything a CORE step can do with the answer Ok, leaving the answers `rest`. -/
inductive Advances (s : State) (rest : List Answer) : State → Prop
  | encHdr (hp : s.st.phase = .encHdr) :
    Advances s rest (toPhase .encRead (wrote (s.st.pad.setWidth 8) (asked (.outWrite (s.st.pad.setWidth 8)) rest s)))
  | encEnd (hp : s.st.phase = .encRead) (hl : s.env.input.length = s.len.toNat) (hend : s.len.toNat ≤ s.icnt.toNat) :
    Advances s rest (streamFinish .noError (asked (.inRead 3) rest s))
  | encTake (hp : s.st.phase = .encRead) (hl : s.env.input.length = s.len.toNat) (hmore : s.icnt.toNat < s.len.toNat) :
    Advances s rest (encTake (nextBytes 3 s) (asked (.inRead 3) rest s))
  | encByte (hp : s.st.phase = .encWrite) (hb : s.st.bidx ≠ 2) :
    Advances s rest (setBidx (s.st.bidx + 1) (byteWritten rest s))
  | encGroup (hp : s.st.phase = .encWrite) (hb : s.st.bidx = 2) :
    Advances s rest (toPhase .encRead (groupDone (byteWritten rest s)))
  | decFormat {p : Byte} {tail : List Byte} (hp : s.st.phase = .decHdr) (hl : s.env.input.length = s.len.toNat)
      (hd : s.env.input.drop s.icnt.toNat = p :: tail) (hbad : 2 < p.toNat ∨ (s.gtot = 0 ∧ p ≠ 0)) :
    Advances s rest (streamRaise .format { asked (.inRead 1) rest s with icnt := 1 })
  | decLone {tail : List Byte} (hp : s.st.phase = .decHdr) (hl : s.env.input.length = s.len.toNat)
      (hd : s.env.input.drop s.icnt.toNat = 0 :: tail) (hg : s.gtot = 0) :
    Advances s rest (streamFinish .noError { asked (.inRead 1) rest s with icnt := 1, st := { s.st with pad := 0 } })
  | decHdr {p : Byte} {tail : List Byte} (hp : s.st.phase = .decHdr) (hl : s.env.input.length = s.len.toNat)
      (hd : s.env.input.drop s.icnt.toNat = p :: tail) (hg : s.gtot ≠ 0) (hle : p.toNat ≤ 2) :
    Advances s rest
      { asked (.inRead 1) rest s with icnt := 1, st := { s.st with pad := p.extractLsb' 0 2, phase := .decRead } }
  | decTake (hp : s.st.phase = .decRead) (hl : s.env.input.length = s.len.toNat) :
    Advances s rest (decTake (nextBytes 3 s) (asked (.inRead 3) rest s))
  | decByte (hp : s.st.phase = .decWrite) (hb : s.st.bidx + 1 ≠ s.wlim) :
    Advances s rest (setBidx (s.st.bidx + 1) (byteWritten rest s))
  | decGroup (hp : s.st.phase = .decWrite) (hb : s.st.bidx + 1 = s.wlim) (hg : s.gcnt + 1 ≠ s.gtot) :
    Advances s rest (toPhase .decRead (groupDone (byteWritten rest s)))
  | decEnd (hp : s.st.phase = .decWrite) (hb : s.st.bidx + 1 = s.wlim) (hg : s.gcnt + 1 = s.gtot) :
    Advances s rest (streamFinish .noError (groupDone (byteWritten rest s)))

variable {s t : State} {rest : List Answer}

theorem decAfterWrite_byte {s : State} (h : s.st.bidx + 1 ≠ s.wlim) : decAfterWrite s = setBidx (s.st.bidx + 1) s :=
  if_neg h

theorem decAfterWrite_group {s : State} (hb : s.st.bidx + 1 = s.wlim) (hg : s.gcnt + 1 ≠ s.gtot) :
    decAfterWrite s = toPhase .decRead (groupDone s) := by
  rw [decAfterWrite, if_pos hb]
  exact if_neg hg

theorem Advances.coreStep_eq (ha : s.env.answers = .ok :: rest) (h : Advances s rest t) : coreStep s = .next t := by
  cases h with
  | encHdr hp => simp only [coreStep, hp, stepEncHdr, withWrite_answered ha]
  | encEnd hp hl hend => rw [coreStep_encRead hp, stepEncRead_end ha hl hend]
  | encTake hp hl hmore => rw [coreStep_encRead hp, stepEncRead_group ha hl hmore]
  | encByte hp hb =>
    simp only [coreStep, hp, stepEncWrite, withWrite_answered ha]
    exact congrArg _ (if_neg hb)
  | encGroup hp hb =>
    simp only [coreStep, hp, stepEncWrite, withWrite_answered ha]
    exact congrArg _ (if_pos hb)
  | decFormat hp hl hd hbad =>
    rw [coreStep_decHdr hp, stepDecHdr_answered ha hl hd, decTakePad_format (s := asked (.inRead 1) rest s) hbad]
  | decLone hp hl hd hg =>
    rw [coreStep_decHdr hp, stepDecHdr_answered ha hl hd, decTakePad_lone (s := asked (.inRead 1) rest s) hg rfl]
    rfl
  | decHdr hp hl hd hg hle =>
    rw [coreStep_decHdr hp, stepDecHdr_answered ha hl hd, decTakePad_groups (s := asked (.inRead 1) rest s) hg hle]
    rfl
  | decTake hp hl => simp only [coreStep, hp, stepDecRead, withRead_answered ha hl]
  | decByte hp hb =>
    simp only [coreStep, hp, stepDecWrite, withWrite_answered ha]
    exact congrArg _ (decAfterWrite_byte (s := byteWritten rest s) hb)
  | decGroup hp hb hg =>
    simp only [coreStep, hp, stepDecWrite, withWrite_answered ha]
    exact congrArg _ (decAfterWrite_group (s := byteWritten rest s) hb hg)
  | decEnd hp hb hg =>
    simp only [coreStep, hp, stepDecWrite, withWrite_answered ha]
    exact congrArg _ (decAfterWrite_last (s := byteWritten rest s) ⟨hb, hg⟩)

/-- Whether a phase's step reads. -/
def reads : Phase → Bool
  | .encRead | .decHdr | .decRead => true
  | .idle | .encHdr | .encWrite | .decWrite => false

/-- A running CORE answered Ok advances, unless it reads of a stream that has not LEN bytes, or none for DEC_HDR. -/
theorem exists_advances (hp : s.st.phase ≠ .idle) (hl : reads s.st.phase = true → s.env.input.length = s.len.toNat)
    (hbyte : s.st.phase = .decHdr → s.env.input.drop s.icnt.toNat ≠ []) : ∃ t, Advances s rest t := by
  cases hphase : s.st.phase with
  | idle => exact absurd hphase hp
  | encHdr => exact ⟨_, .encHdr hphase⟩
  | encRead =>
    have hl := hl (by rw [hphase]; rfl)
    obtain hend | hmore := le_or_gt s.len.toNat s.icnt.toNat
    · exact ⟨_, .encEnd hphase hl hend⟩
    · exact ⟨_, .encTake hphase hl hmore⟩
  | encWrite =>
    by_cases hb : s.st.bidx = 2
    · exact ⟨_, .encGroup hphase hb⟩
    · exact ⟨_, .encByte hphase hb⟩
  | decHdr =>
    have hl := hl (by rw [hphase]; rfl)
    obtain ⟨p, tail, hd⟩ := List.exists_cons_of_ne_nil (hbyte hphase)
    by_cases hbad : 2 < p.toNat ∨ (s.gtot = 0 ∧ p ≠ 0)
    · exact ⟨_, .decFormat hphase hl hd hbad⟩
    · by_cases hg : s.gtot = 0
      · have hzero : p = 0 := by
          by_contra hne
          exact hbad (.inr ⟨hg, hne⟩)
        exact ⟨_, .decLone hphase hl (hzero ▸ hd) hg⟩
      · exact ⟨_, .decHdr hphase hl hd hg (by omega)⟩
  | decRead => exact ⟨_, .decTake hphase (hl (by rw [hphase]; rfl))⟩
  | decWrite =>
    by_cases hb : s.st.bidx + 1 = s.wlim
    · by_cases hg : s.gcnt + 1 = s.gtot
      · exact ⟨_, .decEnd hphase hb hg⟩
      · exact ⟨_, .decGroup hphase hb hg⟩
    · exact ⟨_, .decByte hphase hb⟩

/-- Everything a CORE step can do. -/
theorem coreStep_next (h : coreStep s = .next t) :
    ((s.st.phase = .idle ∨ s.env.answers = []) ∧ t = s)
    ∨ (∃ rest, s.env.answers = .error :: rest ∧ s.st.phase ≠ .idle
        ∧ t = streamRaise (phaseError s.st.phase) (asked (phaseRequest s) rest s))
    ∨ (∃ rest, s.env.answers = .ok :: rest ∧ s.st.phase ≠ .idle ∧ Advances s rest t) := by
  by_cases hp : s.st.phase = .idle
  · simp only [coreStep, hp] at h
    cases h
    exact .inl ⟨.inl hp, rfl⟩
  cases ha : s.env.answers with
  | nil => cases (coreStep_unanswered ha).symm.trans h; exact .inl ⟨.inr rfl, rfl⟩
  | cons a rest =>
    cases a with
    | error => cases (coreStep_error hp ha).symm.trans h; exact .inr (.inl ⟨rest, rfl, hp, rfl⟩)
    | ok =>
      refine .inr (.inr ⟨rest, rfl, hp, ?_⟩)
      obtain ⟨u, hu⟩ : ∃ u, Advances s rest u := by
        refine exists_advances hp (fun hr => ?_) fun hphase hnil => ?_
        · by_contra hl
          have hread : s.st.phase = .encRead ∨ s.st.phase = .decHdr ∨ s.st.phase = .decRead := by
            cases hphase : s.st.phase <;> simp_all [reads]
          exact nomatch (coreStep_lengthDiffers ha hread hl).symm.trans h
        · rw [coreStep_decHdr hphase] at h
          obtain ⟨hans, -⟩ | ⟨_, hans, -⟩ | ⟨_, -, -, huse⟩ := withRead_next h
          · exact nomatch ha.symm.trans hans
          · exact nomatch ha.symm.trans hans
          · simp [nextBytes, hnil] at huse
      cases (hu.coreStep_eq ha).symm.trans h
      exact hu

end Ok

/-! ## The statements on single steps -/

/-- Settles O31: `Advances` at ENC_HDR and ENC_WRITE, and the error answer. -/
theorem encodeWriteSteps : Obligations.EncodeWriteSteps := by
  unfold Obligations.EncodeWriteSteps
  refine ⟨fun s rest hp => ⟨fun ha => (Advances.encHdr hp).coreStep_eq ha, fun ha => ?_⟩,
    fun s rest hp => ⟨fun ha => ?_, fun ha => ?_⟩⟩
  · exact ⟨_, coreStep_error (by simp [hp]) ha, by simp [hp, phaseError]⟩
  · by_cases hb : s.st.bidx = 2
    · rw [(Advances.encGroup hp hb).coreStep_eq ha]
      simp only [hb, if_true]
      rw [toPhase, groupDone, byteWritten, hb]
      rfl
    · rw [(Advances.encByte hp hb).coreStep_eq ha]
      simp only [hb, if_false]
      rw [← hp]
      rfl
  · exact ⟨_, coreStep_error (by simp [hp]) ha, by simp [hp, phaseError]⟩

/-- Settles O34: `Advances` at DEC_READ and DEC_WRITE, and the error answer. -/
theorem decodeGroupSteps : Obligations.DecodeGroupSteps := by
  unfold Obligations.DecodeGroupSteps
  refine ⟨fun s rest hp => ⟨fun ha => ?_, fun ha hmore hl => ?_⟩,
    fun s rest hp => ⟨fun ha => ?_, fun ha hb hg => ?_, fun ha hlast => ?_⟩⟩
  · exact ⟨_, coreStep_error (by simp [hp]) ha, by simp [hp, phaseError]⟩
  · have hsize : readSize 3 s = 3 := by rw [readSize]; omega
    rw [(Advances.decTake hp hl).coreStep_eq ha, nextBytes, hsize]
    rfl
  · exact ⟨_, coreStep_error (by simp [hp]) ha, by simp [hp, phaseError]⟩
  · exact ⟨_, (Advances.decEnd hp hb hg).coreStep_eq ha, by simp [byteWritten]; rfl⟩
  · by_cases hb : s.st.bidx + 1 = s.wlim
    · rw [(Advances.decGroup hp hb (hlast hb)).coreStep_eq ha]
      simp only [hb, if_true]
      rfl
    · rw [(Advances.decByte hp hb).coreStep_eq ha]
      simp only [hb, if_false]
      rw [← hp]
      rfl

end Sys2Proof.Machine

/-! # The start step of ENCODE and DECODE, by the host's answers (43_stream_codec.md R151, R158, R162, R163)

One equation per outcome, in the order the step reaches it; the statements on start steps are these equations on an idle CORE. -/

namespace Sys2Proof.Machine

section StartEquations

variable {i : Instr} {s : State} {r : List Byte} {rest : List Answer} {go : State → Option State}

/-! ## The parts of a start step -/

theorem streamStart_none (h : schedule s.cfg s.key s.nr = none) :
    streamStart s go = some (streamRaise .config (clearStream (accept s))) := by
  simp [streamStart, h]

theorem streamStart_go (h : schedule s.cfg s.key s.nr = some r) : streamStart s go = go (started r s) := by
  simp [streamStart, h, started]

theorem openIn_unanswered (ha : s.env.answers = []) : openIn s go = none := by
  simp only [openIn, ask_unanswered ha]

theorem openIn_error (ha : s.env.answers = .error :: rest) :
    openIn s go = some (streamRaise .ioOpen (asked .inOpen rest s)) := by
  simp only [openIn, ask_answered ha]

theorem openIn_ok (ha : s.env.answers = .ok :: rest) : openIn s go = go (setInOpen (asked .inOpen rest s)) := by
  simp only [openIn, ask_answered ha]

theorem openOut_unanswered (ha : s.env.answers = []) : openOut s go = none := by
  simp only [openOut, ask_unanswered ha]

theorem openOut_error (ha : s.env.answers = .error :: rest) :
    openOut s go = some (streamRaise .ioOpen (asked .outOpen rest s)) := by
  simp only [openOut, ask_answered ha]

theorem openOut_ok (ha : s.env.answers = .ok :: rest) : openOut s go = go (setOutOpen (asked .outOpen rest s)) := by
  simp only [openOut, ask_answered ha]

/-! ## The outcomes of a start step -/

theorem exec_encode_of_start {t : State} (h : encodeStart s = some t) : exec .encode s = .next t := by
  simp only [exec, execEncode, h]

theorem exec_decode_of_start {t : State} (h : decodeStart s = some t) : exec .decode s = .next t := by
  simp only [exec, execDecode, h]

theorem exec_stream_config (hi : i = .encode ∨ i = .decode) (h : schedule s.cfg s.key s.nr = none) :
    exec i s = .next (streamRaise .config (clearStream (accept s))) := by
  obtain rfl | rfl := hi
  · exact exec_encode_of_start (streamStart_none h)
  · exact exec_decode_of_start (streamStart_none h)

section Scheduled

variable (hr : schedule s.cfg s.key s.nr = some r)
include hr

theorem encodeStart_scheduled :
    encodeStart s = openIn (started r s) fun s => openOut s fun s => some (goBusy .encHdr (setPadOfLen s)) :=
  streamStart_go hr

theorem decodeStart_scheduled :
    decodeStart s = openIn (started r s) fun s =>
      if s.len.toNat % 3 = 1 then openOut s fun s => some (goBusy .decHdr (setGtot s)) else some (streamRaise .format s) :=
  streamStart_go hr

theorem exec_stream_inFails (hi : i = .encode ∨ i = .decode) (ha : s.env.answers = .error :: rest) :
    exec i s = .next (streamRaise .ioOpen (asked .inOpen rest (started r s))) := by
  obtain rfl | rfl := hi
  · exact exec_encode_of_start ((encodeStart_scheduled hr).trans (openIn_error ha))
  · exact exec_decode_of_start ((decodeStart_scheduled hr).trans (openIn_error ha))

/-- With the input open, ENCODE goes on to open its output. -/
theorem encodeStart_inOpened (ha : s.env.answers = .ok :: rest) :
    encodeStart s = openOut (inputOpened r rest s) fun s => some (goBusy .encHdr (setPadOfLen s)) :=
  (encodeStart_scheduled hr).trans (openIn_ok ha)

/-- So does DECODE where LEN is of the right form. -/
theorem decodeStart_inOpened (ha : s.env.answers = .ok :: rest) (hlen : s.len.toNat % 3 = 1) :
    decodeStart s = openOut (inputOpened r rest s) fun s => some (goBusy .decHdr (setGtot s)) :=
  (decodeStart_scheduled hr).trans ((openIn_ok (s := started r s) ha).trans (if_pos hlen))

theorem exec_decode_format (ha : s.env.answers = .ok :: rest) (hlen : s.len.toNat % 3 ≠ 1) :
    exec .decode s = .next (streamRaise .format (inputOpened r rest s)) :=
  exec_decode_of_start ((decodeStart_scheduled hr).trans ((openIn_ok (s := started r s) ha).trans (if_neg hlen)))

theorem exec_stream_outFails (hi : i = .encode ∨ i = .decode) (ha : s.env.answers = .ok :: .error :: rest)
    (hlen : i = .decode → s.len.toNat % 3 = 1) :
    exec i s = .next (streamRaise .ioOpen (asked .outOpen rest (inputOpened r (.error :: rest) s))) := by
  obtain rfl | rfl := hi
  · exact exec_encode_of_start ((encodeStart_inOpened hr ha).trans (openOut_error rfl))
  · exact exec_decode_of_start ((decodeStart_inOpened hr ha (hlen rfl)).trans (openOut_error rfl))

theorem exec_encode_starts (ha : s.env.answers = .ok :: .ok :: rest) :
    exec .encode s = .next (goBusy .encHdr (setPadOfLen (bothOpened r (.ok :: rest) rest s))) :=
  exec_encode_of_start ((encodeStart_inOpened hr ha).trans (openOut_ok rfl))

theorem exec_decode_starts (ha : s.env.answers = .ok :: .ok :: rest) (hlen : s.len.toNat % 3 = 1) :
    exec .decode s = .next (goBusy .decHdr (setGtot (bothOpened r (.ok :: rest) rest s))) :=
  exec_decode_of_start ((decodeStart_inOpened hr ha hlen).trans (openOut_ok rfl))

/-- A start step with an unanswered request has not happened (log entry 4). -/
theorem exec_stream_unanswered (hi : i = .encode ∨ i = .decode)
    (ha : s.env.answers = [] ∨ (s.env.answers = [.ok] ∧ (i = .decode → s.len.toNat % 3 = 1))) :
    exec i s = .next (reissue i s) := by
  obtain rfl | rfl := hi
  · have hnone : encodeStart s = none := by
      obtain ha | ⟨ha, -⟩ := ha
      · exact (encodeStart_scheduled hr).trans (openIn_unanswered ha)
      · exact (encodeStart_inOpened hr ha).trans (openOut_unanswered rfl)
    simp only [exec, execEncode, hnone]
  · have hnone : decodeStart s = none := by
      obtain ha | ⟨ha, hlen⟩ := ha
      · exact (decodeStart_scheduled hr).trans (openIn_unanswered ha)
      · exact (decodeStart_inOpened hr ha (hlen rfl)).trans (openOut_unanswered rfl)
    simp only [exec, execDecode, hnone]

end Scheduled

theorem exists_schedule (cfg : Config) (K : Key) {n : Word} (h1 : 1 ≤ n.toNat) (h9 : n.toNat ≤ 9) :
    ∃ r, schedule cfg K n = some r :=
  Option.ne_none_iff_exists'.1 fun hnone => by have := (schedule_eq_none cfg K n).1 hnone; omega

theorem getElem_fillRk (r : List Byte) (k : Fin 9) : (fillRk r)[k] = r.getD k.val 0 := by
  fin_cases k <;> rfl

/-- What `raise E` in a stream command leaves, field by field (R152, R171). -/
theorem streamRaise_eq (e : ErrCode) (s : State) : streamRaise e s = { s with
    rk := zeroRk
    st := { s.st with
      inOpen := false, outOpen := false, rkv := false, rkn := 0, phase := .idle, busy := false, bidx := 0
      done := true, err := e }
    env := { s.env with
      outputTrusted := false
      trace := (if s.st.outOpen then [.request .outClose] else [])
        ++ (if s.st.inOpen then [.request .inClose] else []) ++ s.env.trace } } := by
  rw [streamRaise, streamFinish_eq]
  rfl

end StartEquations

/-! ## The statements on start steps -/

/-- Settles O27: no schedule is CONFIG before any request. -/
theorem streamStartConfigError : Obligations.StreamStartConfigError := by
  unfold Obligations.StreamStartConfigError
  intro s i hi ⟨hbusy, hin, hout⟩ hnr
  have hnone : schedule s.cfg s.key s.nr = none := (schedule_eq_none ..).2 (by omega)
  rw [exec_stream_config hi hnone, streamRaise_eq]
  simp [hin, hout]

/-- Settles O28: the three outcomes of ENCODE's start step with a schedule and its requests answered. -/
theorem encodeStart_outcomes : Obligations.EncodeStart := by
  unfold Obligations.EncodeStart
  intro s r rest ⟨hbusy, hin, hout⟩ hr
  refine ⟨fun ha => ⟨fillRk r, getElem_fillRk r, exec_encode_starts hr ha⟩, fun ha => ?_, fun ha => ?_⟩
  · rw [exec_stream_inFails hr (.inl rfl) ha, streamRaise_eq]
    simp [started, hin, hout]
  · rw [exec_stream_outFails hr (.inl rfl) ha nofun, streamRaise_eq]
    simp [inputOpened, started, hin, hout]

/-- Settles O29: the outcomes of DECODE's start step with a schedule and its requests answered. -/
theorem decodeStart_outcomes : Obligations.DecodeStart := by
  unfold Obligations.DecodeStart
  intro s r rest ⟨hbusy, hin, hout⟩ hr
  refine ⟨fun ha => ?_, fun hlen => ⟨fun ha => ⟨fillRk r, getElem_fillRk r, exec_decode_starts hr ha hlen⟩, fun ha => ?_⟩⟩
  · rw [exec_stream_inFails hr (.inr rfl) ha, streamRaise_eq]
    simp [started, hin, hout]
  · rw [exec_stream_outFails hr (.inr rfl) ha fun _ => hlen, streamRaise_eq]
    simp [inputOpened, started, hin, hout]

/-- Settles O30: the length error comes with the input open and the output not. -/
theorem decodeLengthError : Obligations.DecodeLengthError := by
  unfold Obligations.DecodeLengthError
  intro s r rest ⟨hbusy, hin, hout⟩ hr ha hlen
  rw [exec_decode_format hr ha hlen, streamRaise_eq]
  simp [inputOpened, started, hin, hout]

/-- Settles O36: `coreStep_error` in a running command, and the two failed opens of a start step. -/
theorem errorAnswerEndsCommand : Obligations.ErrorAnswerEndsCommand := by
  unfold Obligations.ErrorAnswerEndsCommand
  refine ⟨fun s rest hp ha => ⟨_, coreStep_error hp ha, ?_⟩, fun s i rest hi h1 h9 => ?_⟩
  · refine ⟨by simp, by simp, ?_, by simp, by simp, phaseRequest s, streamRaise_env_trace ..⟩
    cases s.st.phase <;> simp [phaseError]
  · obtain ⟨r, hr⟩ := exists_schedule s.cfg s.key h1 h9
    exact ⟨fun ha => ⟨_, exec_stream_inFails hr hi ha, by simp, by simp, by simp, by simp, by simp, streamRaise_env_trace ..⟩,
      fun ha hlen => ⟨_, exec_stream_outFails hr hi ha hlen, by simp, by simp, by simp, by simp, by simp,
        (streamRaise_env_trace ..).trans (List.append_assoc ..)⟩⟩

/-- Settles O37: an unanswered CORE step changes nothing, and an unanswered start step puts its CMD write back. -/
theorem unansweredRequestHoldsCore : Obligations.UnansweredRequestHoldsCore := by
  unfold Obligations.UnansweredRequestHoldsCore
  refine ⟨fun s => coreStep_unanswered, fun s i rest hi hb h1 h9 ha hact => ?_⟩
  obtain ⟨r, hr⟩ := exists_schedule s.cfg s.key h1 h9
  have hdecode : decode (encode i) = .ok i := by obtain rfl | rfl := hi <;> rfl
  calc step s
    _ = hostWrite 0 (encode i) (s.awaiting rest) := step_of_actions_cons hact
    _ = exec i (s.awaiting rest) := by rw [hostWrite_cmd (s := s.awaiting rest) _ hb, issue_legal hdecode]
    _ = .next (reissue i (s.awaiting rest)) := exec_stream_unanswered (s := s.awaiting rest) hr hi ha
    _ = .next s := by simp only [reissue, State.awaiting, ← hact]

/-- Settles O38: the two refusals where the model raises them. -/
theorem hostMisdeedsAreRefused : Obligations.HostMisdeedsAreRefused :=
  ⟨fun _ _ ha hp hl => coreStep_lengthDiffers ha hp hl, fun _ _ _ hb => if_pos hb⟩

end Sys2Proof.Machine

/-! # What every step keeps, and what it leaves unchanged

`exec_stream_cases` and `Advances.runs_or_ends` say what a start step and an answered CORE step do to the registers they do not work
on. `StepClosed` packages the argument by which every step keeps a property; the frame statements and the invariants follow. -/

namespace Sys2Proof.Machine

section Starts

/-! ## The start steps (43_stream_codec.md R151, R158, R162) -/

/-- `u` is reached by a start step from `s` before its output is open: the counters are cleared and the schedule may be loaded. -/
def StartFrame (s u : State) : Prop :=
  u = { clearStream (accept s) with
    rk := u.rk
    st := { (clearStream (accept s)).st with rkv := u.st.rkv, rkn := u.st.rkn, inOpen := u.st.inOpen }
    env := { s.env with answers := u.env.answers, trace := u.env.trace } }

/-- The state an ENCODE runs on from, once both its streams are open. -/
def encodeStarted (r : List Byte) (rest : List Answer) (s : State) : State :=
  goBusy .encHdr (setPadOfLen (bothOpened r (.ok :: rest) rest s))

/-- The state a DECODE runs on from, once both its streams are open. -/
def decodeStarted (r : List Byte) (rest : List Answer) (s : State) : State :=
  goBusy .decHdr (setGtot (bothOpened r (.ok :: rest) rest s))

/-- The start step from `s` to `t` ends its command with an error, FORMAT only for a LEN of the wrong form. -/
def StartRaises (s t : State) : Prop :=
  ∃ e u, t = streamRaise e u ∧ e ≠ .noError ∧ (e = .format → s.len.toNat % 3 ≠ 1) ∧ StartFrame s u

/-- Everything ENCODE's start step can do. -/
theorem exec_encode_cases {s t : State} (h : exec .encode s = .next t) :
    t = reissue .encode s ∨ StartRaises s t
    ∨ ∃ r rest, schedule s.cfg s.key s.nr = some r ∧ s.env.answers = .ok :: .ok :: rest ∧ t = encodeStarted r rest s := by
  obtain ⟨⟨⟩, -⟩ | ⟨⟨⟩, -⟩ | ⟨⟨⟩, -⟩ | ⟨⟨⟩, -⟩ | ⟨-, he | ⟨-, ht⟩⟩ | ⟨⟨⟩, -⟩ | ⟨⟨⟩, -⟩ := exec_next h
  · obtain ⟨-, ht⟩ | ⟨r, hr, ⟨rest, -, ht⟩ | ⟨rest, -, ht⟩ | ⟨rest, ha, ht⟩⟩ := encodeStart_some he
    · exact .inr (.inl ⟨_, _, ht, by simp, nofun, rfl⟩)
    · exact .inr (.inl ⟨_, _, ht, by simp, nofun, rfl⟩)
    · exact .inr (.inl ⟨_, _, ht, by simp, nofun, rfl⟩)
    · exact .inr (.inr ⟨r, rest, hr, ha, ht⟩)
  · exact .inl ht

/-- Everything DECODE's start step can do. -/
theorem exec_decode_cases {s t : State} (h : exec .decode s = .next t) :
    t = reissue .decode s ∨ StartRaises s t
    ∨ ∃ r rest, schedule s.cfg s.key s.nr = some r ∧ s.env.answers = .ok :: .ok :: rest ∧ s.len.toNat % 3 = 1
        ∧ t = decodeStarted r rest s := by
  obtain ⟨⟨⟩, -⟩ | ⟨⟨⟩, -⟩ | ⟨⟨⟩, -⟩ | ⟨⟨⟩, -⟩ | ⟨⟨⟩, -⟩ | ⟨-, he | ⟨-, ht⟩⟩ | ⟨⟨⟩, -⟩ := exec_next h
  · obtain ⟨-, ht⟩ | ⟨r, hr, ⟨rest, -, ht⟩ | ⟨rest, -, hlen, ht⟩ | ⟨rest, -, -, ht⟩ | ⟨rest, ha, hlen, ht⟩⟩ := decodeStart_some he
    · exact .inr (.inl ⟨_, _, ht, by simp, nofun, rfl⟩)
    · exact .inr (.inl ⟨_, _, ht, by simp, nofun, rfl⟩)
    · exact .inr (.inl ⟨_, _, ht, by simp, fun _ => hlen, rfl⟩)
    · exact .inr (.inl ⟨_, _, ht, by simp, nofun, rfl⟩)
    · exact .inr (.inr ⟨r, rest, hr, ha, hlen, ht⟩)
  · exact .inl ht

end Starts

section Running

/-! ## An answered CORE step (43_stream_codec.md R159 to R167) -/

/-- With the answer Ok a command runs on in a phase, or ends. -/
theorem Advances.runs_or_ends {s t : State} {rest : List Answer} (h : Advances s rest t) :
    (t.st.phase ≠ .idle ∧ RunningFrame s t)
    ∨ ∃ e u, (t = streamFinish e u ∨ t = streamRaise e u) ∧ RunningFrame s u := by
  cases h with
  | encHdr | encTake | encGroup | decHdr | decTake | decGroup => exact .inl ⟨nofun, rfl⟩
  | encByte hp | decByte hp => exact .inl ⟨by simp [byteWritten, hp], rfl⟩
  | encEnd | decLone | decEnd => exact .inr ⟨_, _, .inl rfl, rfl⟩
  | decFormat => exact .inr ⟨_, _, .inr rfl, rfl⟩

end Running

section Closed

/-! ## Properties every step keeps (20_memory.md R64) -/

/-- `P` is kept by everything a step is made of: the host's side changing, a dropped write, a register write, the parts of a
command, and a CORE step; and it holds after reset. Commands and register writes happen on an idle CORE only. -/
structure StepClosed (P : State → Prop) : Prop where
  env : ∀ {s} e, P s → P { s with env := e }
  dropWrite : ∀ {s}, P s → P (dropWrite s)
  rekey : ∀ {s} k n, s.st.busy = false → P s → P (clearSchedule { s with key := k, nr := n })
  operands : ∀ {s} d k l, s.st.busy = false → P s → P { s with din := d, sk := k, len := l }
  finish : ∀ {s} e, s.st.busy = false → P s → P (finish e s)
  dout : ∀ {s} v, v.toNat < 2 ^ 24 → s.st.busy = false → P s → P { s with dout := v }
  clr : ∀ {s}, s.st.busy = false → P s → P { s with st := { s.st with err := .noError, ovr := false, done := false } }
  load : ∀ {s r}, schedule s.cfg s.key s.nr = some r → s.st.busy = false → P s → P (loadSchedule r s.nr s)
  startRaises : ∀ {s t}, StartRaises s t → s.st.busy = false → P s → P t
  encodeStarts : ∀ {s r} rest, schedule s.cfg s.key s.nr = some r → s.st.busy = false → P s → P (encodeStarted r rest s)
  decodeStarts : ∀ {s r} rest, schedule s.cfg s.key s.nr = some r → s.len.toNat % 3 = 1 → s.st.busy = false → P s →
    P (decodeStarted r rest s)
  core : ∀ {s t}, coreStep s = .next t → P s → P t
  reset : ∀ s, P (hostReset s)

namespace StepClosed

variable {P : State → Prop} (C : StepClosed P) {s t : State}
include C

theorem exec {i : Instr} (h : exec i s = .next t) (hb : s.st.busy = false) (hs : P s) : P t := by
  obtain ⟨-, rfl⟩ | ⟨-, ⟨-, rfl⟩ | ⟨r, hr, rfl⟩⟩ | ⟨-, -, v, hv, rfl⟩ | ⟨-, -, rfl⟩ | ⟨rfl, -⟩ | ⟨rfl, -⟩ | ⟨-, rfl⟩ := exec_next h
  · exact C.finish (s := s) .noError hb hs
  · exact C.finish (s := clearSchedule s) .config hb (C.rekey s.key s.nr hb hs)
  · exact C.finish (s := loadSchedule r s.nr s) .noError hb (C.load hr hb hs)
  · exact C.finish (s := { s with dout := v }) .noError hb (C.dout v hv hb hs)
  · exact C.finish (s := s) .noKeys hb hs
  · obtain rfl | hraises | ⟨r, rest, hr, -, rfl⟩ := exec_encode_cases h
    · exact C.env _ hs
    · exact C.startRaises hraises hb hs
    · exact C.encodeStarts rest hr hb hs
  · obtain rfl | hraises | ⟨r, rest, hr, -, hlen, rfl⟩ := exec_decode_cases h
    · exact C.env _ hs
    · exact C.startRaises hraises hb hs
    · exact C.decodeStarts rest hr hlen hb hs
  · exact C.clr hb hs

theorem hostWrite {i : Fin 64} {v : Word} (h : hostWrite i v s = .next t) (hs : P s) : P t := by
  obtain ⟨-, ho⟩ | ⟨-, -, ho⟩ | ⟨-, hb, hissue⟩ | ⟨-, hb, ho⟩ | ⟨-, hb, ho⟩ | ⟨-, hb, ho⟩ | ⟨-, hb, ho⟩ | ⟨-, hb, ho⟩ :=
    hostWrite_cases h
  case inr.inr.inl =>
    obtain ⟨i, -, hexec⟩ | ⟨e, -, ho⟩ := issue_cases hissue
    · exact C.exec hexec hb hs
    · cases ho; exact C.finish .illegal hb hs
  all_goals cases ho
  · exact hs
  · exact C.dropWrite hs
  · exact C.rekey _ s.nr hb hs
  · exact C.rekey s.key v hb hs
  · exact C.operands v s.sk s.len hb hs
  · exact C.operands s.din _ s.len hb hs
  · exact C.operands s.din s.sk v hb hs

theorem hostAct {a : HostAction} (h : hostAct a s = .next t) (hs : P s) : P t := by
  cases a with
  | write i v => exact C.hostWrite h hs
  | read i => cases h; exact C.env _ hs
  | poll =>
    cases h
    unfold hostPoll
    split <;> exact C.env (s := s) _ hs
  | coreTurn => exact C.core h hs
  | reset => cases h; exact C.reset s
  | supplyInput bs => cases hostSupply_next h; exact C.env _ hs

/-- Every step keeps `P`. -/
theorem step (h : step s = .next t) (hs : P s) : P t := by
  obtain ⟨-, hcore⟩ | ⟨a, rest, -, hact⟩ := step_cases h
  · exact C.core hcore hs
  · exact C.hostAct hact (C.env _ hs)

end StepClosed

end Closed

section StatusInvariant

/-! ## The STATUS invariants (10_state.md R23) -/

theorem toNat_rkn_of_schedule {cfg : Config} {K : Key} {n : Word} {r : List Byte} (h : schedule cfg K n = some r) :
    (n.extractLsb' 0 4).toNat = n.toNat := by
  have hn := schedule_eq_some h
  simp only [BitVec.extractLsb'_toNat]
  omega

theorem rkn_ne_zero_of_schedule {cfg : Config} {K : Key} {n : Word} {r : List Byte} (h : schedule cfg K n = some r) :
    n.extractLsb' 0 4 ≠ 0 := by
  have hn := schedule_eq_some h
  have hrkn := toNat_rkn_of_schedule h
  bv_omega

theorem streamFinish_statusInv (e : ErrCode) (u : State) : StatusInv (streamFinish e u) :=
  ⟨by simp, by simp, by simp, by simp⟩

theorem streamRaise_statusInv (e : ErrCode) (u : State) : StatusInv (streamRaise e u) :=
  ⟨by simp, by simp, by simp, by simp⟩

theorem StatusInv.phase_idle {s : State} (hs : StatusInv s) (hb : s.st.busy = false) : s.st.phase = .idle := by
  by_contra hp
  exact Bool.false_ne_true (hb.symm.trans (hs.busy_iff_phase.2 hp))

/-- A running CORE with a schedule loaded. -/
theorem statusInv_of_running {t : State} (hb : t.st.busy = true) (hp : t.st.phase ≠ .idle)
    (hrkv : t.st.rkv = false ↔ t.st.rkn = 0) : StatusInv t :=
  ⟨hrkv, by simp [hb, hp], by simp [hb], by simp [hb]⟩

theorem coreStep_statusInv {s t : State} (h : coreStep s = .next t) (hs : StatusInv s) : StatusInv t := by
  obtain ⟨-, rfl⟩ | ⟨rest, -, -, rfl⟩ | ⟨rest, -, hp, hadv⟩ := coreStep_next h
  · exact hs
  · exact streamRaise_statusInv _ _
  · obtain ⟨ht, hframe⟩ | ⟨e, u, rfl | rfl, -⟩ := hadv.runs_or_ends
    · have hrkv := hs.rkv_iff_rkn
      rw [← congrArg (·.st.rkv) hframe, ← congrArg (·.st.rkn) hframe] at hrkv
      exact statusInv_of_running (hframe.busy.trans (hs.busy_iff_phase.2 hp)) ht hrkv
    · exact streamFinish_statusInv e u
    · exact streamRaise_statusInv e u

theorem statusInv_closed : StepClosed StatusInv where
  env _ hs := ⟨hs.1, hs.2, hs.3, hs.4⟩
  dropWrite hs := ⟨hs.1, hs.2, hs.3, hs.4⟩
  rekey _ _ _ hs := ⟨by simp, hs.2, hs.3, hs.4⟩
  operands _ _ _ _ hs := ⟨hs.1, hs.2, hs.3, hs.4⟩
  finish _ _ hs := ⟨hs.1, hs.2, hs.3, fun _ _ => rfl⟩
  dout _ _ _ hs := ⟨hs.1, hs.2, hs.3, hs.4⟩
  clr _ hs := ⟨hs.1, hs.2, hs.3, fun _ hne => absurd rfl hne⟩
  load hr _ hs := ⟨by simpa using rkn_ne_zero_of_schedule hr, hs.2, hs.3, hs.4⟩
  startRaises h _ _ := by obtain ⟨e, u, rfl, -⟩ := h; exact streamRaise_statusInv e u
  encodeStarts _ hr _ _ := statusInv_of_running rfl nofun (iff_of_false nofun (rkn_ne_zero_of_schedule hr))
  decodeStarts _ hr _ _ _ := statusInv_of_running rfl nofun (iff_of_false nofun (rkn_ne_zero_of_schedule hr))
  core := coreStep_statusInv
  reset _ := ⟨iff_of_true rfl rfl, iff_of_false nofun (absurd rfl), fun _ => ⟨rfl, rfl, rfl⟩, fun _ hne => absurd rfl hne⟩

end StatusInvariant

section ScheduleInvariant

/-! ## The round-key file and its key (10_state.md R35, R36) -/

theorem scheduleInv_of_cleared {t : State} (h : ScheduleCleared t) : ScheduleInv t := by
  obtain ⟨hrkv, hrkn, hrk⟩ := h
  rw [ScheduleInv, hrkv]
  exact ⟨hrkn, hrk⟩

theorem scheduleInv_of_loaded {t : State} {r : List Byte} (hr : schedule t.cfg t.key t.nr = some r) (hrkv : t.st.rkv = true)
    (hrkn : t.st.rkn = t.nr.extractLsb' 0 4) (hrk : t.rk = fillRk r) : ScheduleInv t := by
  rw [ScheduleInv, hrkv]
  exact ⟨r, hr, hrkn, fun i => by rw [hrk]; exact getElem_fillRk r i⟩

theorem coreStep_scheduleInv {s t : State} (h : coreStep s = .next t) (hs : ScheduleInv s) : ScheduleInv t := by
  obtain hframe | ⟨e, u, -, rfl | rfl⟩ := coreStep_runsOnOrEnds h
  · rw [hframe]; exact hs
  · exact scheduleInv_of_cleared (streamFinish_cleared e u)
  · exact scheduleInv_of_cleared (streamRaise_cleared e u)

theorem scheduleInv_closed : StepClosed ScheduleInv where
  env _ hs := hs
  dropWrite hs := hs
  rekey _ _ _ _ := scheduleInv_of_cleared (clearSchedule_cleared _)
  operands _ _ _ _ hs := hs
  finish _ _ hs := hs
  dout _ _ _ hs := hs
  clr _ hs := hs
  load hr _ _ := scheduleInv_of_loaded hr rfl rfl rfl
  startRaises h _ _ := by obtain ⟨e, u, rfl, -⟩ := h; exact scheduleInv_of_cleared (streamRaise_cleared e u)
  encodeStarts _ hr _ _ := scheduleInv_of_loaded hr rfl rfl rfl
  decodeStarts _ hr _ _ _ := scheduleInv_of_loaded hr rfl rfl rfl
  core := coreStep_scheduleInv
  reset _ := scheduleInv_of_cleared (scheduleCleared_of_zeroRk rfl rfl rfl)

end ScheduleInvariant

/-- Settles O55: each kind of change a step can make (`StepClosed`) keeps the STATUS invariants. -/
theorem statusInvariantKept : Obligations.StatusInvariantKept := fun _ _ hs h => statusInv_closed.step h hs

/-- Settles O56: a step loads the file with its schedule, clears it, or leaves it with KEY and NR as they were. -/
theorem scheduleInvariantKept : Obligations.ScheduleInvariantKept := fun _ _ hs h => scheduleInv_closed.step h hs

end Sys2Proof.Machine

/-! # The position of a stream command in its streams (10_state.md R31 to R39; 43_stream_codec.md R158 to R167)

`Placed` is what the CORE's own steps need of the stream invariant: the position and the range of PAD. -/

namespace Sys2Proof.Machine

section Position

/-- The sequencer stands where a running command can stand, with a legal padding count. -/
def Placed (s : State) : Prop := StreamPos s ∧ s.st.pad.toNat ≤ 2

theorem streamPos_of_idle {s : State} (hp : s.st.phase = .idle) : StreamPos s := by
  simp only [StreamPos, hp]

theorem padcount_toNat (L : Nat) : (BitVec.ofNat 2 (padcount L)).toNat = padcount L :=
  Nat.mod_eq_of_lt (by have := padcount_le L; omega)

theorem placed_encodeStarted (r : List Byte) (rest : List Answer) (s : State) : Placed (encodeStarted r rest s) :=
  ⟨⟨rfl, rfl, rfl, rfl, rfl, padcount_toNat _⟩, (padcount_toNat _).trans_le (padcount_le _)⟩

theorem placed_decodeStarted (r : List Byte) (rest : List Answer) {s : State} (hlen : s.len.toNat % 3 = 1) :
    Placed (decodeStarted r rest s) :=
  ⟨⟨hlen, Nat.mod_eq_of_lt (show (s.len.toNat - 1) / 3 < 2 ^ 32 by omega), rfl, rfl, rfl, rfl, rfl⟩, Nat.zero_le 2⟩

/-- WLIM of a decrypted group: less the padding for the last one (R166). -/
theorem toNat_wlim {gcnt gtot : Word} {pad : BitVec 2} (hg : gcnt.toNat < gtot.toNat) (hpad : pad.toNat ≤ 2) :
    (if gcnt = gtot - 1 then 3 - pad else 3 : BitVec 2).toNat
      = if gcnt.toNat + 1 = gtot.toNat then 3 - pad.toNat else 3 := by
  have hlast : gcnt = gtot - 1 ↔ gcnt.toNat + 1 = gtot.toNat := by bv_omega
  simp only [hlast]
  split
  · bv_omega
  · rfl

variable {s t : State} {rest : List Answer}

theorem Advances.placed (h : Advances s rest t) (hs : Placed s) : Placed t := by
  obtain ⟨hpos, hpad⟩ := hs
  cases h with
  | encHdr hp =>
    simp only [StreamPos, hp] at hpos
    obtain ⟨hicnt, hocnt, hgcnt, hgtot, hbidx, hpadcount⟩ := hpos
    refine ⟨⟨hgtot, hbidx, hpadcount, ?_, ?_, ?_⟩, hpad⟩
    · simp [hicnt, hgcnt]
    · simp [hocnt, hgcnt]
    · simp [hgcnt]
  | encEnd | decEnd => exact ⟨streamPos_of_idle (by simp), by simpa [byteWritten] using hpad⟩
  | decLone => exact ⟨streamPos_of_idle (by simp), by simp⟩
  | decFormat => exact ⟨streamPos_of_idle (by simp), by simpa using hpad⟩
  | encTake hp hl hmore =>
    simp only [StreamPos, hp] at hpos
    obtain ⟨hgtot, hbidx, hpadcount, hicnt, hocnt, hgcnt⟩ := hpos
    have hsize : (nextBytes 3 s).length = min 3 (s.len.toNat - s.icnt.toNat) := nextBytes_length_of_input hl
    refine ⟨⟨hgtot, rfl, Nat.zero_lt_succ 2, hpadcount, ?_, ?_, ?_⟩, hpad⟩
    · simp [hsize]
      omega
    · simp; omega
    · simpa using hocnt
  | encByte hp hb =>
    simp only [StreamPos, hp] at hpos
    obtain ⟨hgtot, hwlim, hbidx, hpadcount, hicnt, hgcnt, hocnt⟩ := hpos
    have hp' : (setBidx (s.st.bidx + 1) (byteWritten rest s)).st.phase = .encWrite := hp
    simp only [Placed, StreamPos, hp']
    refine ⟨⟨hgtot, hwlim, ?_, hpadcount, hicnt, hgcnt, ?_⟩, hpad⟩
    · simp; bv_omega
    · simp [byteWritten, hocnt]; bv_omega
  | encGroup hp hb =>
    simp only [StreamPos, hp] at hpos
    obtain ⟨hgtot, hwlim, hbidx, hpadcount, hicnt, hgcnt, hocnt⟩ := hpos
    refine ⟨⟨hgtot, rfl, hpadcount, ?_, ?_, ?_⟩, hpad⟩
    · simp [byteWritten, hicnt]; bv_omega
    · simp [byteWritten, hocnt, hb]; bv_omega
    · simp [byteWritten]; bv_omega
  | decHdr hp hl hd hg hle =>
    rename_i p tail
    simp only [StreamPos, hp] at hpos
    obtain ⟨hlen, hgtot, hicnt, hocnt, hgcnt, hpad0, hbidx⟩ := hpos
    refine ⟨⟨?_, ?_, hbidx, ?_, ?_⟩, ?_⟩
    · simp [hgtot]; omega
    · simp [hgcnt]; bv_omega
    · simp [hgcnt]
    · simp [hocnt, hgcnt]
    · simp; omega
  | decTake hp hl =>
    simp only [StreamPos, hp] at hpos
    obtain ⟨hlen, hgcnt, hbidx, hicnt, hocnt⟩ := hpos
    have hwlim := toNat_wlim hgcnt hpad
    refine ⟨⟨hlen, hgcnt, hwlim, ?_, ?_, ?_⟩, hpad⟩
    · refine lt_of_lt_of_eq ?_ hwlim.symm
      change 0 < _
      split <;> omega
    · simp [hicnt]; bv_omega
    · simp [hocnt]
  | decByte hp hb =>
    simp only [StreamPos, hp] at hpos
    obtain ⟨hlen, hgcnt, hwlim, hbidx, hicnt, hocnt⟩ := hpos
    have hp' : (setBidx (s.st.bidx + 1) (byteWritten rest s)).st.phase = .decWrite := hp
    simp only [Placed, StreamPos, hp']
    refine ⟨⟨hlen, hgcnt, hwlim, ?_, hicnt, ?_⟩, hpad⟩
    · simp [byteWritten]; bv_omega
    · simp [byteWritten, hocnt]; bv_omega
  | decGroup hp hb hg =>
    simp only [StreamPos, hp] at hpos
    obtain ⟨hlen, hgcnt, hwlim, hbidx, hicnt, hocnt⟩ := hpos
    have hlast : s.gcnt.toNat + 1 ≠ s.gtot.toNat := fun heq => hg (by bv_omega)
    rw [if_neg hlast] at hwlim
    refine ⟨⟨hlen, ?_, rfl, ?_, ?_⟩, hpad⟩
    · simp [byteWritten]; bv_omega
    · simp [byteWritten, hicnt]; bv_omega
    · simp [byteWritten, hocnt]; bv_omega

/-! ## What the position bounds -/

theorem StreamPos.icnt_le (hs : StreamPos s) (hp : s.st.phase ≠ .idle) : s.icnt.toNat ≤ s.len.toNat := by
  cases hphase : s.st.phase <;> simp only [StreamPos, hphase] at hs
  case idle => exact absurd hphase hp
  case encHdr | decHdr => simp [hs]
  all_goals omega

theorem StreamPos.bidx_le (hs : StreamPos s) (hp : s.st.phase ≠ .idle) : s.st.bidx.toNat ≤ 2 := by
  cases hphase : s.st.phase <;> simp only [StreamPos, hphase] at hs
  case idle => exact absurd hphase hp
  case encWrite | decWrite => omega
  all_goals simp [hs]

theorem StreamPos.gcnt_le (hs : StreamPos s) (hp : s.st.phase ≠ .idle) : s.gcnt.toNat ≤ 0x55555555 := by
  cases hphase : s.st.phase <;> simp only [StreamPos, hphase] at hs
  case idle => exact absurd hphase hp
  case encHdr | decHdr => simp [hs]
  all_goals omega

/-- With a group to write out there is room to count it (10_state.md R33). -/
theorem StreamPos.gcnt_lt (hs : StreamPos s) (hp : s.st.phase = .encWrite ∨ s.st.phase = .decWrite) :
    s.gcnt.toNat < 0x55555555 := by
  obtain hp | hp := hp <;> simp only [StreamPos, hp] at hs <;> omega

theorem Advances.gcnt_le (h : Advances s rest t) (hs : StreamPos s) : t.gcnt.toNat ≤ 0x55555555 := by
  have counted (hp : s.st.phase = .encWrite ∨ s.st.phase = .decWrite) : (s.gcnt + 1).toNat ≤ 0x55555555 := by
    have := hs.gcnt_lt hp
    bv_omega
  cases h with
  | encGroup hp => exact counted (.inl hp)
  | decGroup hp => exact counted (.inr hp)
  | decEnd hp => simpa [byteWritten] using counted (.inr hp)
  | encHdr hp | encTake hp | encByte hp | decHdr hp | decTake hp | decByte hp => exact hs.gcnt_le (by simp [hp])
  | encEnd hp | decLone hp | decFormat hp => simpa using hs.gcnt_le (by simp [hp])

end Position

section StreamInvariant

/-! ## The stream invariant (10_state.md R22, R31 to R39) -/

theorem streamInv_of_idle {t : State} (hstatus : StatusInv t) (hb : t.st.busy = false) (hranges : RangeInv t) : StreamInv t :=
  ⟨hstatus, hranges, streamPos_of_idle (hstatus.phase_idle hb), by simp [hb], by simp [hb]⟩

theorem streamInv_of_running {t : State} (hstatus : StatusInv t) (hplaced : Placed t) (hp : t.st.phase ≠ .idle)
    (hrkn : t.st.rkn.toNat ≤ 9) (hdout : t.dout.toNat < 2 ^ 24)
    (hopen : t.st.inOpen = true ∧ t.st.outOpen = true ∧ t.st.rkv = true) : StreamInv t :=
  ⟨hstatus, ⟨hrkn, hplaced.2, hplaced.1.bidx_le hp, hdout, hplaced.1.gcnt_le hp⟩, hplaced.1, fun _ => hopen,
    fun _ => hplaced.1.icnt_le hp⟩

theorem streamInv_of_ended {t u : State} {e : ErrCode} (h : t = streamFinish e u ∨ t = streamRaise e u)
    (hpad : t.st.pad.toNat ≤ 2) (hdout : t.dout.toNat < 2 ^ 24) (hgcnt : t.gcnt.toNat ≤ 0x55555555) : StreamInv t := by
  obtain rfl | rfl := h
  · exact streamInv_of_idle (streamFinish_statusInv e u) (by simp) ⟨by simp, hpad, by simp, hdout, hgcnt⟩
  · exact streamInv_of_idle (streamRaise_statusInv e u) (by simp) ⟨by simp, hpad, by simp, hdout, hgcnt⟩

theorem coreStep_streamInv {s t : State} (h : coreStep s = .next t) (hs : StreamInv s) : StreamInv t := by
  have hplaced : Placed s := ⟨hs.pos, hs.ranges.pad_le⟩
  obtain ⟨-, rfl⟩ | ⟨rest, -, hp, rfl⟩ | ⟨rest, -, hp, hadv⟩ := coreStep_next h
  · exact hs
  · refine streamInv_of_ended (.inr rfl) ?_ ?_ ?_
    · simpa using hs.ranges.pad_le
    · simpa using hs.ranges.dout_lt
    · simpa using hs.ranges.gcnt_le
  · obtain ⟨ht, hframe⟩ | ⟨e, u, hend, hframe⟩ := hadv.runs_or_ends
    · have hopen := hs.busy_open (hs.status.busy_iff_phase.2 hp)
      refine streamInv_of_running (coreStep_statusInv h hs.status) (hadv.placed hplaced) ht ?_ ?_ ?_
      · rw [hframe]; exact hs.ranges.rkn_le
      · rw [hframe]; exact hs.ranges.dout_lt
      · rw [hframe]; exact hopen
    · have hdout : t.dout = s.dout := by
        rw [← congrArg (·.dout) hframe]
        obtain rfl | rfl := hend <;> simp
      exact streamInv_of_ended hend (hadv.placed hplaced).2 (hdout ▸ hs.ranges.dout_lt) (hadv.gcnt_le hs.pos)

theorem rkn_le_of_schedule {cfg : Config} {K : Key} {n : Word} {r : List Byte} (h : schedule cfg K n = some r) :
    (n.extractLsb' 0 4).toNat ≤ 9 := by
  rw [toNat_rkn_of_schedule h]
  exact (schedule_eq_some h).2.1

theorem streamInv_closed : StepClosed StreamInv where
  env e hs := ⟨statusInv_closed.env e hs.status, ⟨hs.2.1, hs.2.2, hs.2.3, hs.2.4, hs.2.5⟩, hs.pos, hs.busy_open, hs.busy_icnt⟩
  dropWrite hs :=
    ⟨statusInv_closed.dropWrite hs.status, ⟨hs.2.1, hs.2.2, hs.2.3, hs.2.4, hs.2.5⟩, hs.pos, hs.busy_open, hs.busy_icnt⟩
  rekey k n hb hs :=
    streamInv_of_idle (statusInv_closed.rekey k n hb hs.status) hb ⟨Nat.zero_le 9, hs.2.2, hs.2.3, hs.2.4, hs.2.5⟩
  operands d k l hb hs :=
    streamInv_of_idle (statusInv_closed.operands d k l hb hs.status) hb ⟨hs.2.1, hs.2.2, hs.2.3, hs.2.4, hs.2.5⟩
  finish e hb hs :=
    streamInv_of_idle (statusInv_closed.finish e hb hs.status) hb ⟨hs.2.1, hs.2.2, hs.2.3, hs.2.4, hs.2.5⟩
  dout v hv hb hs :=
    streamInv_of_idle (statusInv_closed.dout v hv hb hs.status) hb ⟨hs.2.1, hs.2.2, hs.2.3, hv, hs.2.5⟩
  clr hb hs := streamInv_of_idle (statusInv_closed.clr hb hs.status) hb ⟨hs.2.1, hs.2.2, hs.2.3, hs.2.4, hs.2.5⟩
  load hr hb hs :=
    streamInv_of_idle (statusInv_closed.load hr hb hs.status) hb ⟨rkn_le_of_schedule hr, hs.2.2, hs.2.3, hs.2.4, hs.2.5⟩
  startRaises h _ hs := by
    obtain ⟨e, u, rfl, -, -, hframe⟩ := h
    refine streamInv_of_ended (.inr rfl) ?_ ?_ ?_
    all_goals simp; rw [hframe]
    · exact Nat.zero_le 2
    · exact hs.ranges.dout_lt
    · exact Nat.zero_le _
  encodeStarts rest hr hb hs :=
    streamInv_of_running (statusInv_closed.encodeStarts rest hr hb hs.status) (placed_encodeStarted _ rest _) nofun
      (rkn_le_of_schedule hr) hs.ranges.dout_lt ⟨rfl, rfl, rfl⟩
  decodeStarts rest hr hlen hb hs :=
    streamInv_of_running (statusInv_closed.decodeStarts rest hr hlen hb hs.status) (placed_decodeStarted _ rest hlen) nofun
      (rkn_le_of_schedule hr) hs.ranges.dout_lt ⟨rfl, rfl, rfl⟩
  core := coreStep_streamInv
  reset s := streamInv_of_idle (statusInv_closed.reset s) rfl
    ⟨Nat.zero_le 9, Nat.zero_le 2, Nat.zero_le 2, Nat.two_pow_pos 24, Nat.zero_le _⟩

end StreamInvariant

section Progress

/-! ## A dutiful host always gets a next state (70_reset_and_hazards.md R236) -/

theorem withSchedule_isNext (s : State) (w : Word) : ∃ t, withSchedule s w = .next t := by
  unfold withSchedule
  split <;> exact ⟨_, rfl⟩

theorem withIndexedKey_isNext (idx : BitVec 4) (s : State) (use : Byte → Word) : ∃ t, withIndexedKey idx s use = .next t := by
  unfold withIndexedKey
  split <;> exact ⟨_, rfl⟩

/-- Every command answers a next state. -/
theorem exec_isNext (i : Instr) (s : State) : ∃ t, exec i s = .next t := by
  cases i with
  | nop | expand | confuse | feistel | round | hswap | padcnt | clr => exact ⟨_, rfl⟩
  | feistelk idx => unfold exec execFeistelk; exact withIndexedKey_isNext ..
  | roundk idx => unfold exec execRoundk; exact withIndexedKey_isNext ..
  | encblk | decblk | encgrp | decgrp => exact withSchedule_isNext _ _
  | keygen => simp only [exec, execKeygen]; split <;> exact ⟨_, rfl⟩
  | encode => simp only [exec, execEncode]; split <;> exact ⟨_, rfl⟩
  | decode => simp only [exec, execDecode]; split <;> exact ⟨_, rfl⟩

theorem issue_isNext (w : Word) (s : State) : ∃ t, issue w s = .next t := by
  unfold issue
  split
  · exact exec_isNext _ s
  · exact ⟨_, rfl⟩

theorem hostWrite_isNext (i : Fin 64) (v : Word) (s : State) : ∃ t, hostWrite i v s = .next t := by
  obtain ⟨-, h⟩ | ⟨-, -, h⟩ | ⟨-, -, h⟩ | ⟨-, -, h⟩ | ⟨-, -, h⟩ | ⟨-, -, h⟩ | ⟨-, -, h⟩ | ⟨-, -, h⟩ :=
    hostWrite_cases (Eq.refl (hostWrite i v s))
  case inr.inr.inl => exact h ▸ issue_isNext v s
  all_goals exact ⟨_, h⟩

/-- A CORE step at its place in a stream of LEN bytes answers a next state: DEC_HDR has a byte to read. -/
theorem coreStep_isNext {s : State} (hpos : StreamPos s) (hl : s.st.phase ≠ .idle → s.env.input.length = s.len.toNat) :
    ∃ t, coreStep s = .next t := by
  by_cases hp : s.st.phase = .idle
  · exact ⟨s, by simp only [coreStep, hp]⟩
  cases ha : s.env.answers with
  | nil => exact ⟨_, coreStep_unanswered ha⟩
  | cons a rest =>
    cases a with
    | error => exact ⟨_, coreStep_error hp ha⟩
    | ok =>
      obtain ⟨t, hadv⟩ : ∃ t, Advances s rest t := by
        refine exists_advances hp (fun _ => hl hp) fun hphase hnil => ?_
        simp only [StreamPos, hphase] at hpos
        obtain ⟨hlen, -, hicnt, -⟩ := hpos
        have hlength := hl hp
        simp [hicnt] at hnil
        simp [hnil] at hlength
        omega
      exact ⟨t, hadv.coreStep_eq ha⟩

end Progress

/-! ## The statements -/

/-- Settles O57: each kind of change a step can make keeps the place in the streams (`Advances.placed` for the CORE steps). -/
theorem streamInvariantKept : Obligations.StreamInvariantKept := fun _ _ hs h => streamInv_closed.step h hs

/-- Settles O58: every invariant holds after reset, and the reset state is its own reset. -/
theorem invariantsHoldAtReset : Obligations.InvariantsHoldAtReset :=
  ⟨statusInv_closed.reset State.reset, scheduleInv_closed.reset State.reset, streamInv_closed.reset State.reset, rfl, rfl, rfl⟩

/-- Settles O59: only a CORE step and a supply of the input stream can be refused, and the host's duties rule both out. -/
theorem dutifulHostIsNeverRefused : Obligations.DutifulHostIsNeverRefused := by
  unfold Obligations.DutifulHostIsNeverRefused
  refine ⟨fun s hs ⟨hl, hsupply⟩ => ?_, fun s f => nomatch f⟩
  have hcore (acts : List HostAction) : ∃ t, coreStep (s.awaiting acts) = .next t :=
    coreStep_isNext (s := s.awaiting acts) hs.pos fun hp => hl (hs.status.busy_iff_phase.2 hp)
  cases hact : s.env.actions with
  | nil =>
    have hstep : step s = coreStep s := by simp only [step, nextEvent, hact]
    exact hstep ▸ hcore s.env.actions
  | cons a rest =>
    rw [step_of_actions_cons hact]
    cases a with
    | write i v => exact hostWrite_isNext i v _
    | read i => exact ⟨_, rfl⟩
    | poll => exact ⟨_, rfl⟩
    | coreTurn => exact hcore rest
    | reset => exact ⟨_, rfl⟩
    | supplyInput bs => exact ⟨_, if_neg (by simp [State.awaiting, hsupply bs rest hact])⟩

end Sys2Proof.Machine

/-! # Whole runs of a stream command (43_stream_codec.md section 5, 70_reset_and_hazards.md section 4)

`StreamCourse` packages both inductions over a run: what a run that has ended can have come to, and how many steps it takes with
every answer Ok. ENCODE and DECODE then only need their own invariant, kept by each way to advance. -/

namespace Sys2Proof.Machine

section Runs

/-! ## Runs -/

theorem runsTo_zero {s t : State} : RunsTo 0 s t ↔ s = t :=
  ⟨Host.Outcome.next.inj, congrArg _⟩

theorem runsTo_succ {k : Nat} {s t : State} : RunsTo (k + 1) s t ↔ ∃ u, step s = .next u ∧ RunsTo k u t := by
  unfold RunsTo
  simp only [Host.Core.run]
  constructor
  · intro h
    split at h
    · exact ⟨_, by assumption, h⟩
    · cases h
    · cases h
  · rintro ⟨u, hstep, hrun⟩
    have hstep : core.step s = .next u := hstep
    rw [hstep]
    exact hrun

theorem RunsTo.keeps {P : State → Prop} (hstep : ∀ {u v}, P u → step u = .next v → P v) {k : Nat} {s t : State}
    (hs : P s) (h : RunsTo k s t) : P t := by
  induction k generalizing s with
  | zero => exact runsTo_zero.1 h ▸ hs
  | succ k ih =>
    obtain ⟨u, hu, hrun⟩ := runsTo_succ.1 h
    exact ih (hstep hs hu) hrun

/-- With no host action left a step is a CORE step. -/
theorem step_of_no_actions {s : State} (h : s.env.actions = []) : step s = coreStep s := by
  simp only [step, nextEvent, h]

/-- The first step of a command issued to an idle CORE is its meaning. -/
theorem step_issuing {s : State} {i : Instr} (hi : i.wellFormed = true) (hb : s.st.busy = false) :
    step (s.issuing i) = exec i (s.awaiting []) := by
  rw [State.issuing, step_awaiting_write, hostWrite_cmd (s := s.awaiting []) _ hb, issue_legal (decode_encode hi)]

end Runs

section Courses

/-! ## The course of a stream command -/

/-- The host has no action left and the CORE no command: no step changes the state any more. -/
def Stopped (t : State) : Prop := t.env.actions = [] ∧ t.st.phase = .idle

/-- The command has ended in an error answer to a read or a write. -/
def IoError (t : State) : Prop := Stopped t ∧ (t.st.err = .ioRead ∨ t.st.err = .ioWrite)

/-- A command runs on in states `R`, with `left` steps to go when every answer is Ok, to one of its ends `D` or to a failure `F`. -/
structure StreamCourse (R : State → Prop) (left : State → Nat) (D F : State → Prop) : Prop where
  actions : ∀ {t}, R t → t.env.actions = []
  busy : ∀ {t}, R t → t.st.busy = true
  phase : ∀ {t}, R t → t.st.phase ≠ .idle
  input : ∀ {t}, R t → t.env.input.length = t.len.toNat
  pos : ∀ {t}, R t → StreamPos t
  advances : ∀ {t t' rest}, R t → Advances t rest t' → (R t' ∧ left t = left t' + 1) ∨ (D t' ∧ left t = 1) ∨ F t'
  left_pos : ∀ {t}, R t → 0 < left t
  stopped : ∀ {t}, D t ∨ F t → Stopped t

theorem Advances.answers {s t : State} {rest : List Answer} (h : Advances s rest t) : t.env.answers = rest := by
  cases h <;> simp [byteWritten]

theorem step_of_stopped {s : State} (h : Stopped s) : step s = .next s := by
  rw [step_of_no_actions h.1]
  simp only [coreStep, h.2]

namespace StreamCourse

variable {R : State → Prop} {left : State → Nat} {D F : State → Prop} (C : StreamCourse R left D F)
include C

/-- What a run from `R` can have come to. -/
theorem step_keeps {t t' : State} (h : step t = .next t') (ht : R t ∨ (D t ∨ F t) ∨ IoError t) :
    R t' ∨ (D t' ∨ F t') ∨ IoError t' := by
  obtain hR | hstopped : R t ∨ Stopped t := ht.imp_right fun h => h.elim C.stopped And.left
  · rw [step_of_no_actions (C.actions hR)] at h
    obtain ⟨-, rfl⟩ | ⟨rest, -, -, rfl⟩ | ⟨rest, -, -, hadv⟩ := coreStep_next h
    · exact .inl hR
    · refine .inr (.inr ⟨⟨by simp [C.actions hR], by simp⟩, ?_⟩)
      cases t.st.phase <;> simp [phaseError]
    · obtain ⟨hR', -⟩ | ⟨hD, -⟩ | hF := C.advances hR hadv
      · exact .inl hR'
      · exact .inr (.inl (.inl hD))
      · exact .inr (.inl (.inr hF))
  · cases (step_of_stopped hstopped).symm.trans h
    exact ht

/-- What a run of one issued command can have come to when it has ended. -/
theorem run_ended {s t : State} {i : Instr} {k : Nat} (hi : i.wellFormed = true) (hb : s.st.busy = false)
    (hstart : ∀ {t}, exec i (s.awaiting []) = .next t → t = reissue i (s.awaiting []) ∨ StartRaises (s.awaiting []) t ∨ R t)
    (hrun : RunsTo k (s.issuing i) t) (hend : Ended t) :
    StartRaises (s.awaiting []) t ∨ (D t ∨ F t) ∨ IoError t := by
  have hkept : t = s.issuing i ∨ StartRaises (s.awaiting []) t ∨ R t ∨ (D t ∨ F t) ∨ IoError t := by
    refine hrun.keeps (P := fun t => t = s.issuing i ∨ StartRaises (s.awaiting []) t ∨ R t ∨ (D t ∨ F t) ∨ IoError t)
      (fun {u v} hu hstep => ?_) (.inl rfl)
    obtain rfl | hraises | hu := hu
    · rw [step_issuing hi hb] at hstep
      exact (hstart hstep).imp_right (Or.imp_right .inl)
    · have hstopped : Stopped u := by
        obtain ⟨e, w, rfl, -, -, hframe⟩ := hraises
        refine ⟨?_, by simp⟩
        rw [streamRaise_env_actions, hframe]
        rfl
      cases (step_of_stopped hstopped).symm.trans hstep
      exact .inr (.inl hraises)
    · exact .inr (.inr (C.step_keeps hstep hu))
  obtain ⟨hactions, hidle⟩ := hend
  obtain rfl | hraises | hR | hout := hkept
  · exact nomatch hactions
  · exact .inl hraises
  · exact nomatch (C.busy hR).symm.trans hidle
  · exact .inr hout

/-- With the answer Ok a run goes on by one step. -/
theorem step_ok (hF : ∀ t, ¬ F t) {t : State} {rest : List Answer} (ht : R t) (ha : t.env.answers = .ok :: rest) :
    ∃ t', step t = .next t' ∧ t'.env.answers = rest ∧ ((R t' ∧ left t = left t' + 1) ∨ (D t' ∧ left t = 1)) := by
  obtain ⟨t', h⟩ := coreStep_isNext (C.pos ht) fun _ => C.input ht
  obtain ⟨hidle | hnil, -⟩ | ⟨rest', herror, -⟩ | ⟨rest', hok, -, hadv⟩ := coreStep_next h
  · exact absurd hidle (C.phase ht)
  · exact nomatch ha.symm.trans hnil
  · exact nomatch ha.symm.trans herror
  · cases ha.symm.trans hok
    refine ⟨t', (step_of_no_actions (C.actions ht)).trans h, hadv.answers, ?_⟩
    exact (C.advances ht hadv).imp_right fun h => h.resolve_right (hF t')

/-- With every answer Ok a run takes exactly `left` steps, busy before the last. -/
theorem completes (hF : ∀ t, ¬ F t) {n : Nat} {t : State} (hn : left t = n) (ht : R t) (hok : ∀ a ∈ t.env.answers, a = .ok)
    (hle : n ≤ t.env.answers.length) :
    (∃ t', RunsTo n t t' ∧ D t') ∧ ∀ k < n, ∃ t', RunsTo k t t' ∧ t'.st.busy = true := by
  induction n generalizing t with
  | zero => exact absurd (C.left_pos ht) (by omega)
  | succ n ih =>
    cases ha : t.env.answers with
    | nil => simp [ha] at hle
    | cons a rest =>
      simp only [ha, List.mem_cons, forall_eq_or_imp, List.length_cons, Nat.add_le_add_iff_right] at hok hle
      obtain ⟨rfl, hok⟩ := hok
      obtain ⟨t', hstep, rfl, ⟨hR, hleft⟩ | ⟨hD, hleft⟩⟩ := C.step_ok hF ht ha
      · obtain ⟨⟨v, hrun, hD⟩, hbusy⟩ := ih (by omega) hR hok hle
        refine ⟨⟨v, runsTo_succ.2 ⟨t', hstep, hrun⟩, hD⟩, fun k hk => ?_⟩
        cases k with
        | zero => exact ⟨t, runsTo_zero.2 rfl, C.busy ht⟩
        | succ k =>
          obtain ⟨v, hrun, hv⟩ := hbusy k (by omega)
          exact ⟨v, runsTo_succ.2 ⟨t', hstep, hrun⟩, hv⟩
      · obtain rfl : n = 0 := by omega
        refine ⟨⟨t', runsTo_succ.2 ⟨t', hstep, runsTo_zero.2 rfl⟩, hD⟩, fun k hk => ?_⟩
        obtain rfl : k = 0 := by omega
        exact ⟨t, runsTo_zero.2 rfl, C.busy ht⟩

/-- An issued command whose start step leads to `u` takes one step more than `u` has left. -/
theorem issued_completes (hF : ∀ t, ¬ F t) {s u : State} {i : Instr} (hstart : step (s.issuing i) = .next u) (hu : R u)
    (hok : ∀ a ∈ u.env.answers, a = .ok) (hle : left u ≤ u.env.answers.length) :
    (∃ t, RunsTo (left u + 1) (s.issuing i) t ∧ D t)
      ∧ ∀ k, 1 ≤ k → k < left u + 1 → ∃ t, RunsTo k (s.issuing i) t ∧ t.st.busy = true := by
  obtain ⟨⟨t, hrun, hD⟩, hbusy⟩ := C.completes hF rfl hu hok hle
  refine ⟨⟨t, runsTo_succ.2 ⟨u, hstart, hrun⟩, hD⟩, fun k hk1 hk => ?_⟩
  obtain ⟨v, hrun, hv⟩ := hbusy (k - 1) (by omega)
  refine ⟨v, ?_, hv⟩
  rw [← Nat.sub_add_cancel hk1]
  exact runsTo_succ.2 ⟨u, hstart, hrun⟩

end StreamCourse

end Courses

end Sys2Proof.Machine

/-! # ENCODE from its first request to its last (43_stream_codec.md R159 to R161, R168, R170; 70_reset_and_hazards.md R242)

The invariant of a running ENCODE is that what it has written and what it still has to write (`encPending`) together are the encoded
stream. Writing a byte moves it from the one to the other, and reading a group leaves both as they are. -/

namespace Sys2Proof.Machine

section Bytes

/-! ## Byte sequences in groups of three (R154, R160) -/

theorem length_chunks (bs : List Byte) : (chunks bs).length = (bs.length + 2) / 3 := by
  induction bs using chunks.induct with
  | case1 => rfl
  | case2 a => simp [chunks]
  | case3 a b => simp [chunks]
  | case4 a b c rest ih => simp only [chunks, List.length_cons, ih]; omega

/-- The first group and the rest. -/
theorem chunks_of_ne_nil {bs : List Byte} (h : bs ≠ []) : chunks bs = bs.take 3 :: chunks (bs.drop 3) := by
  match bs, h with
  | [a], _ => rfl
  | [a, b], _ => rfl
  | a :: b :: c :: rest, _ => rfl

/-- The bytes of the groups `f` makes of a byte sequence. -/
def groupStream (f : Group → Group) (bs : List Byte) : List Byte := (chunks bs).flatMap fun c => groupBytes (f (unpack c))

@[simp] theorem groupStream_nil (f : Group → Group) : groupStream f [] = [] := rfl

theorem groupStream_of_ne_nil (f : Group → Group) {bs : List Byte} (h : bs ≠ []) :
    groupStream f bs = groupBytes (f (unpack (bs.take 3))) ++ groupStream f (bs.drop 3) := by
  rw [groupStream, chunks_of_ne_nil h, List.flatMap_cons]
  rfl

theorem length_groupStream (f : Group → Group) (bs : List Byte) : (groupStream f bs).length = 3 * ((bs.length + 2) / 3) := by
  rw [groupStream, List.length_flatMap, ← length_chunks]
  simp [groupBytes, Nat.mul_comm]

/-- Byte j of a group, then the bytes after it. -/
theorem drop_groupBytes (g : Group) {j : BitVec 2} (hj : j.toNat < 3) :
    (groupBytes g).drop j.toNat = groupByte g j :: (groupBytes g).drop (j + 1).toNat := by
  have hcases : j = 0 ∨ j = 1 ∨ j = 2 := by bv_omega
  obtain rfl | rfl | rfl := hcases <;> rfl

end Bytes

section EncodeCourse

variable {s t : State} {rest : List Answer}

/-- What a running ENCODE has still to write. -/
def encPending (t : State) : List Byte :=
  let groups := groupStream (encryptGroup t.cfg (subkeys t)) (t.env.input.drop t.icnt.toNat)
  match t.st.phase with
  | .encHdr => t.st.pad.setWidth 8 :: groups
  | .encRead => groups
  | .encWrite => (groupBytes t.buf).drop t.st.bidx.toNat ++ groups
  | .idle | .decHdr | .decRead | .decWrite => []

/-- How many groups a running ENCODE has asked for. -/
def encReads (t : State) : Nat := if t.st.phase = .encWrite then t.gcnt.toNat + 1 else t.gcnt.toNat

/-- How many steps an ENCODE has to go with every answer Ok (70_reset_and_hazards.md R242). -/
def encLeft (t : State) : Nat :=
  let groups := (t.len.toNat + 2) / 3
  match t.st.phase with
  | .encHdr => 2 + 4 * groups
  | .encRead => 1 + 4 * (groups - t.gcnt.toNat)
  | .encWrite => (3 - t.st.bidx.toNat) + 1 + 4 * (groups - t.gcnt.toNat - 1)
  | .idle | .decHdr | .decRead | .decWrite => 0

/-- What each step of an ENCODE keeps, and what it counts. -/
structure EncKeeps (t t' : State) : Prop where
  phase : t'.st.phase = .encRead ∨ t'.st.phase = .encWrite
  output : t'.env.output ++ encPending t' = t.env.output ++ encPending t
  reads : countRequests (.inRead 3) t'.env.trace + encReads t = countRequests (.inRead 3) t.env.trace + encReads t'
  left : encLeft t = encLeft t' + 1

theorem countRequests_cons (r r' : Request) (tr : List Observation) :
    countRequests r (.request r' :: tr) = countRequests r tr + if r' = r then 1 else 0 := by
  simp [countRequests, List.countP_cons]

theorem nextBytes_three {s : State} (hl : s.env.input.length = s.len.toNat) :
    nextBytes 3 s = (s.env.input.drop s.icnt.toNat).take 3 := by
  rw [nextBytes, readSize, List.take_eq_take_iff, List.length_drop, hl]
  omega

/-- The end of a command reads nothing. -/
theorem countRequests_streamFinish (k : Nat) (e : ErrCode) (s : State) :
    countRequests (.inRead k) (streamFinish e s).env.trace = countRequests (.inRead k) s.env.trace := by
  rw [streamFinish_env_trace]
  split <;> split <;> simp [countRequests]

/-- A step of ENCODE, answered Ok, that is not its last. -/
theorem Advances.encKeeps {t' : State} (h : Advances t rest t') (hs : Placed t)
    (hp : t.st.phase = .encHdr ∨ t.st.phase = .encRead ∨ t.st.phase = .encWrite) (hrun : t'.st.phase ≠ .idle) : EncKeeps t t' := by
  have hpos := hs.1
  have hpos' := (h.placed hs).1
  cases h with
  | encHdr hp =>
    simp only [StreamPos, hp] at hpos
    obtain ⟨hicnt, -, hgcnt, -⟩ := hpos
    refine ⟨.inl rfl, ?_, ?_, ?_⟩
    · simp [encPending, hp, subkeys]
    · simp [countRequests_cons, encReads, hp]
    · simp [encLeft, hp, hgcnt]
      omega
  | encTake hp hl hmore =>
    simp only [StreamPos, hp] at hpos
    obtain ⟨-, -, -, hicnt, -⟩ := hpos
    have hne : t.env.input.drop t.icnt.toNat ≠ [] := by simp; omega
    have hdrop : t.env.input.drop (Machine.encTake (nextBytes 3 t) (asked (.inRead 3) rest t)).icnt.toNat
        = (t.env.input.drop t.icnt.toNat).drop 3 := by
      rw [List.drop_drop, List.drop_eq_drop_iff]
      obtain ⟨-, -, -, -, hicnt', -⟩ := hpos'
      rw [hicnt']
      simp
      omega
    refine ⟨.inr rfl, ?_, ?_, ?_⟩
    · simp only [encPending, hp]
      rw [groupStream_of_ne_nil _ hne, ← nextBytes_three hl, ← hdrop]
      rfl
    · simp [countRequests_cons, encReads, hp]
      omega
    · simp [encLeft, hp]
      omega
  | encByte hp hb =>
    simp only [StreamPos, hp] at hpos
    obtain ⟨-, -, hbidx, -⟩ := hpos
    refine ⟨.inr hp, ?_, ?_, ?_⟩
    · simp [encPending, hp, byteWritten, subkeys, drop_groupBytes _ hbidx]
    · simp [countRequests_cons, encReads, hp, byteWritten]
    · simp [encLeft, hp, byteWritten]
      bv_omega
  | encGroup hp hb =>
    have hroom := hpos.gcnt_lt (.inl hp)
    refine ⟨.inl rfl, ?_, ?_, ?_⟩
    · simp [encPending, hp, byteWritten, subkeys, hb]
      rfl
    · simp [countRequests_cons, encReads, hp, byteWritten]
      omega
    · simp [encLeft, hp, byteWritten, hb]
      omega
  | encEnd | decLone | decFormat | decEnd => simp at hrun
  | decHdr hp' | decTake hp' | decByte hp' | decGroup hp' => simp [hp'] at hp

theorem RunningFrame.trans {u v w : State} (h : RunningFrame u v) (h' : RunningFrame v w) : RunningFrame u w := by
  rw [h', h]; rfl

/-- An ENCODE on its way from the state `u`. -/
structure EncRunning (u t : State) : Prop where
  frame : RunningFrame u t
  phase : t.st.phase = .encHdr ∨ t.st.phase = .encRead ∨ t.st.phase = .encWrite
  placed : Placed t
  input : t.env.input.length = t.len.toNat
  output : t.env.output ++ encPending t = u.env.output ++ encPending u
  reads : countRequests (.inRead 3) t.env.trace + encReads u = countRequests (.inRead 3) u.env.trace + encReads t

/-- The last step of an ENCODE without error: the read that finds the end of the input (R160, R170). -/
structure EncLast (u v : State) : Prop where
  running : EncRunning u v
  phase : v.st.phase = .encRead
  atEnd : v.len.toNat ≤ v.icnt.toNat

/-- An ENCODE on its way from `u` has ended in `t` without error. -/
def EncDone (u t : State) : Prop := ∃ v rest, EncLast u v ∧ t = streamFinish .noError (asked (.inRead 3) rest v)

theorem EncLast.gcnt {u v : State} (h : EncLast u v) : v.gcnt.toNat = (v.len.toNat + 2) / 3 := by
  obtain ⟨hrun, hp, hend⟩ := h
  have hpos := hrun.placed.1
  simp only [StreamPos, hp] at hpos
  omega

theorem EncRunning.advances {u t' : State} (h : EncRunning u t) (hadv : Advances t rest t') :
    (EncRunning u t' ∧ encLeft t = encLeft t' + 1) ∨ EncDone u t' ∧ encLeft t = 1 := by
  by_cases hidle : t'.st.phase = .idle
  · cases hadv with
    | encEnd hp hl hend =>
      have hlast : EncLast u t := ⟨h, hp, hend⟩
      refine .inr ⟨⟨t, rest, hlast, rfl⟩, ?_⟩
      simp [encLeft, hp, hlast.gcnt]
    | encHdr | encTake | encGroup | decHdr | decTake | decGroup => exact nomatch hidle
    | encByte hp | decByte hp => exact nomatch hp.symm.trans hidle
    | decLone hp | decFormat hp | decEnd hp => simpa [hp] using h.phase
  · obtain ⟨-, hframe⟩ | ⟨e, w, hend, -⟩ := hadv.runs_or_ends
    · have hkeeps := hadv.encKeeps h.placed h.phase hidle
      have hreads := h.reads
      have hreads' := hkeeps.reads
      refine .inl ⟨⟨h.frame.trans hframe, .inr hkeeps.phase, hadv.placed h.placed, ?_, hkeeps.output.trans h.output, by omega⟩,
        hkeeps.left⟩
      rw [hframe]; exact h.input
    · obtain rfl | rfl := hend <;> simp at hidle

theorem EncRunning.left_pos {u : State} (h : EncRunning u t) : 0 < encLeft t := by
  obtain hp | hp | hp := h.phase <;> simp only [encLeft, hp] <;> omega

theorem encCourse {u : State} (hactions : u.env.actions = []) (hbusy : u.st.busy = true) :
    StreamCourse (EncRunning u) encLeft (EncDone u) fun _ => False where
  actions h := (congrArg (·.env.actions) h.frame).trans hactions
  busy h := h.frame.busy.trans hbusy
  phase h hidle := by simpa [hidle] using h.phase
  input h := h.input
  pos h := h.placed.1
  advances h hadv := (h.advances hadv).imp_right .inl
  left_pos h := h.left_pos
  stopped h := by
    obtain ⟨v, rest, hlast, rfl⟩ := h.resolve_right id
    exact ⟨by simpa using (congrArg (·.env.actions) hlast.running.frame).trans hactions, by simp⟩

/-! ## What an ENCODE without error has done (R168) -/

theorem EncDone.output {u : State} (h : EncDone u t) : t.env.output = u.env.output ++ encPending u := by
  obtain ⟨v, rest, ⟨hrun, hp, hend⟩, rfl⟩ := h
  have hnone : v.env.input.drop v.icnt.toNat = [] := List.drop_eq_nil_of_le (hrun.input.trans_le hend)
  have hpending : encPending v = [] := by simp only [encPending, hp, hnone, groupStream_nil]
  simpa [hpending] using hrun.output

theorem EncDone.counts {u : State} (h : EncDone u t) : t.icnt = u.len ∧ t.gcnt.toNat = (u.len.toNat + 2) / 3
    ∧ t.ocnt = 1 + 3 * t.gcnt
    ∧ countRequests (.inRead 3) t.env.trace + encReads u = countRequests (.inRead 3) u.env.trace + t.gcnt.toNat + 1 := by
  obtain ⟨v, rest, hlast, rfl⟩ := h
  have hgcnt := hlast.gcnt
  obtain ⟨hrun, hp, hend⟩ := hlast
  have hlen : v.len = u.len := congrArg (·.len) hrun.frame
  have hicnt := hrun.placed.1.icnt_le (by simp [hp])
  have hpos := hrun.placed.1
  simp only [StreamPos, hp] at hpos
  obtain ⟨-, -, -, -, hocnt, -⟩ := hpos
  have hreads := hrun.reads
  refine ⟨?_, ?_, ?_, ?_⟩
  · simp; bv_omega
  · simpa [← hlen] using hgcnt
  · simpa using hocnt
  · have hv : encReads v = v.gcnt.toNat := by simp [encReads, hp]
    rw [hv] at hreads
    simp only [countRequests_streamFinish, streamFinish_gcnt, asked_env, asked_gcnt, countRequests_cons, if_true]
    omega

theorem EncDone.ended {u : State} (hactions : u.env.actions = []) (h : EncDone u t) :
    Ended t ∧ t.st.err = .noError ∧ t.st.done = true := by
  obtain ⟨v, rest, hlast, rfl⟩ := h
  exact ⟨⟨by simpa using (congrArg (·.env.actions) hlast.running.frame).trans hactions, by simp⟩, by simp, by simp⟩

theorem EncDone.trusted {u : State} (h : EncDone u t) : t.env.outputTrusted = u.env.outputTrusted := by
  obtain ⟨v, rest, hlast, rfl⟩ := h
  simpa using congrArg (·.env.outputTrusted) hlast.running.frame

end EncodeCourse

section EncodeStatements

variable {s t : State} {ks : List Byte}

/-- The state an issued ENCODE runs on from. -/
def encFrom (ks : List Byte) (s : State) : State := encodeStarted ks (s.env.answers.drop 2) (s.awaiting [])

/-- The schedule as the block commands read it back from the round-key file. -/
theorem take_fillRk {cfg : Config} {K : Key} {n : Word} {r : List Byte} (h : schedule cfg K n = some r) :
    (fillRk r).toList.take (n.extractLsb' 0 4).toNat = r := by
  rw [toNat_rkn_of_schedule h]
  obtain ⟨h1, h9, rfl⟩ := schedule_eq_some h
  generalize n.toNat = m at h1 h9
  interval_cases m <;> rfl

theorem encPending_encFrom (hr : schedule s.cfg s.key s.nr = some ks) (hl : s.env.input.length = s.len.toNat) :
    encPending (encFrom ks s) = encodedStream s.cfg ks s.env.input := by
  have hkeys : subkeys (encFrom ks s) = ks := take_fillRk hr
  have hpad : (BitVec.ofNat 2 (padcount s.len.toNat)).setWidth 8 = BitVec.ofNat 8 (padcount s.env.input.length) := by
    have := padcount_le s.len.toNat
    rw [hl]
    bv_omega
  rw [encPending, hkeys]
  exact congrArg₂ List.cons hpad rfl

theorem encRunning_encFrom (hl : s.env.input.length = s.len.toNat) : EncRunning (encFrom ks s) (encFrom ks s) :=
  ⟨rfl, .inl rfl, placed_encodeStarted .., hl, rfl, rfl⟩

theorem exec_encode_course (hr : schedule s.cfg s.key s.nr = some ks) (hl : s.env.input.length = s.len.toNat)
    (h : exec .encode (s.awaiting []) = .next t) :
    t = reissue .encode (s.awaiting []) ∨ StartRaises (s.awaiting []) t ∨ EncRunning (encFrom ks s) t := by
  obtain ht | ht | ⟨r, rest, hr', ha, rfl⟩ := exec_encode_cases h
  · exact .inl ht
  · exact .inr (.inl ht)
  · obtain rfl : r = ks := Option.some.inj (hr'.symm.trans hr)
    have hu : encodeStarted r rest (s.awaiting []) = encFrom r s := by
      rw [encFrom, show s.env.answers = _ from ha]
      rfl
    exact .inr (.inr (hu ▸ encRunning_encFrom hl))

/-- An issued ENCODE that has ended without error has run its whole course. -/
theorem encode_done {k : Nat} (hb : s.st.busy = false) (hr : schedule s.cfg s.key s.nr = some ks)
    (hl : s.env.input.length = s.len.toNat) (hrun : RunsTo k (s.issuing .encode) t) (hend : Ended t)
    (herr : t.st.err = .noError) : EncDone (encFrom ks s) t := by
  have C := encCourse (u := encFrom ks s) rfl rfl
  obtain ⟨e, w, rfl, hne, -⟩ | (hdone | ⟨⟨⟩⟩) | ⟨-, hio⟩ := C.run_ended rfl hb (exec_encode_course hr hl) hrun hend
  · exact absurd (by simpa using herr) hne
  · exact hdone
  · simp [herr] at hio

/-- The answers to the two opens of a start step. -/
theorem exists_two_ok {answers : List Answer} (hok : ∀ a ∈ answers, a = .ok) (hle : 2 ≤ answers.length) :
    ∃ rest, answers = .ok :: .ok :: rest := by
  match answers, hle with
  | a :: b :: rest, _ =>
    simp only [List.mem_cons, forall_eq_or_imp] at hok
    obtain ⟨rfl, rfl, -⟩ := hok
    exact ⟨rest, rfl⟩

end EncodeStatements

/-- Settles O40: the course of ENCODE moves every byte of the encoded stream to the output. -/
theorem encodeOutput : Obligations.EncodeOutput := by
  unfold Obligations.EncodeOutput
  intro s t ks k hidle hr hl hrun hend herr
  have hdone := encode_done hidle.1 hr hl hrun hend herr
  have houtput : t.env.output = encodedStream s.cfg ks s.env.input := hdone.output.trans (encPending_encFrom hr hl)
  have hlength : t.env.output.length = 1 + 3 * ((s.len.toNat + 2) / 3) := by
    rw [houtput, encodedStream, List.length_cons, ← groupStream, length_groupStream, hl, Nat.add_comm]
  obtain ⟨hicnt, hgcnt, hocnt, hreads⟩ := hdone.counts
  have hlen : (encFrom ks s).len = s.len := rfl
  have hopens : countRequests (.inRead 3) (encFrom ks s).env.trace = countRequests (.inRead 3) s.env.trace := rfl
  have hnone : encReads (encFrom ks s) = 0 := rfl
  rw [hlen] at hgcnt
  refine ⟨houtput, hlength, ?_, ?_, hicnt, hgcnt, ?_, ?_, hdone.trusted⟩
  · unfold padcount; omega
  · omega
  · rw [hlength, hocnt]; bv_omega
  · omega

/-- Settles O43: one CMD step, then the steps `encLeft` counts. -/
theorem encodeStepCount : Obligations.EncodeStepCount := by
  unfold Obligations.EncodeStepCount
  intro s hidle h1 h9 hl hok hle
  obtain ⟨ks, hr⟩ := exists_schedule s.cfg s.key h1 h9
  obtain ⟨rest, ha⟩ := exists_two_ok hok (by omega)
  have hstart : step (s.issuing .encode) = .next (encFrom ks s) := by
    rw [step_issuing rfl hidle.1, exec_encode_starts (s := s.awaiting []) hr ha, encFrom, ha]
    rfl
  have hanswers : (encFrom ks s).env.answers = rest := by rw [encFrom, ha]; rfl
  have hleft : encLeft (encFrom ks s) = 2 + 4 * ((s.len.toNat + 2) / 3) := rfl
  obtain ⟨⟨t, hrun, hdone⟩, hbusy⟩ := (encCourse rfl rfl).issued_completes (fun _ => id) hstart (encRunning_encFrom hl)
    (by rw [hanswers]; intro a hmem; exact hok a (by simp [ha, hmem]))
    (by rw [ha, List.length_cons, List.length_cons] at hle; rw [hanswers, hleft]; omega)
  rw [hleft, Nat.add_right_comm] at hrun hbusy
  exact ⟨⟨t, hrun, hdone.ended rfl⟩, hbusy⟩

end Sys2Proof.Machine

/-! # DECODE from its first request to its last (43_stream_codec.md R164 to R167; 70_reset_and_hazards.md R242)

As for ENCODE: what a running DECODE has written and what it still has to write (`decPending`) together are the decoded stream. -/

namespace Sys2Proof.Machine

section DecodeCourse

variable {s t u : State} {rest : List Answer}

/-- What a running DECODE has still to write. -/
def decPending (t : State) : List Byte :=
  let groups := groupStream (decryptGroup t.cfg (subkeys t)) (t.env.input.drop t.icnt.toNat)
  match t.st.phase with
  | .decHdr => decodedStream t.cfg (subkeys t) t.env.input
  | .decRead => groups.rdrop t.st.pad.toNat
  | .decWrite => ((groupBytes t.buf).take t.wlim.toNat).drop t.st.bidx.toNat ++ groups.rdrop t.st.pad.toNat
  | .idle | .encHdr | .encRead | .encWrite => []

/-- How many steps a DECODE has to go with every answer Ok (70_reset_and_hazards.md R242). Before DEC_HDR the padding count is the
first byte of the input, where that is a count at all. -/
def decLeft (t : State) : Nat :=
  match t.st.phase with
  | .decHdr => 1 + (4 * t.gtot.toNat - min 2 (t.env.input.headD 0).toNat)
  | .decRead => 4 * (t.gtot.toNat - t.gcnt.toNat) - t.st.pad.toNat
  | .decWrite =>
    t.wlim.toNat - t.st.bidx.toNat
      + if t.gcnt.toNat + 1 = t.gtot.toNat then 0 else 4 * (t.gtot.toNat - t.gcnt.toNat - 1) - t.st.pad.toNat
  | .idle | .encHdr | .encRead | .encWrite => 0

/-- What each step of a DECODE keeps, and what it counts. -/
structure DecKeeps (t t' : State) : Prop where
  phase : t'.st.phase = .decRead ∨ t'.st.phase = .decWrite
  output : t'.env.output ++ decPending t' = t.env.output ++ decPending t
  left : decLeft t = decLeft t' + 1

/-- A padding byte fits PAD (R165). -/
theorem toNat_pad {p : Byte} (hp : p.toNat ≤ 2) : (p.extractLsb' 0 2).toNat = p.toNat := by
  simp only [BitVec.extractLsb'_toNat]
  omega

/-- The padding is cut off the last group alone (R167). -/
theorem rdrop_groupBytes_append {g : Group} {tail : List Byte} {n w : Nat} (hn : n ≤ 2)
    (hlast : tail = [] ∧ w = 3 - n ∨ 3 ≤ tail.length ∧ w = 3) :
    (groupBytes g ++ tail).rdrop n = (groupBytes g).take w ++ tail.rdrop n := by
  obtain ⟨rfl, rfl⟩ | ⟨htail, rfl⟩ := hlast
  · simp [List.rdrop, groupBytes]
  · rw [List.rdrop_append_of_le_length _ (by omega)]
    rfl

/-- Byte j of a group of which `w` bytes are written, then the bytes after it. -/
theorem drop_take_groupBytes (g : Group) {j w : BitVec 2} (hj : j.toNat < w.toNat) :
    ((groupBytes g).take w.toNat).drop j.toNat = groupByte g j :: ((groupBytes g).take w.toNat).drop (j + 1).toNat := by
  have hj3 : j.toNat < 3 := by omega
  have hsucc : (j + 1).toNat = j.toNat + 1 := by bv_omega
  rw [List.drop_take, drop_groupBytes g hj3, List.drop_take, hsucc,
    show w.toNat - j.toNat = w.toNat - (j.toNat + 1) + 1 by omega, List.take_succ_cons]

/-- DEC_READ takes the next group out of what is still to write, less the padding if it is the last. -/
theorem decTake_keeps (hs : Placed t) (hp : t.st.phase = .decRead) (hl : t.env.input.length = t.len.toNat) :
    DecKeeps t (decTake (nextBytes 3 t) (asked (.inRead 3) rest t)) := by
  obtain ⟨hpos, hpad⟩ := hs
  simp only [StreamPos, hp] at hpos
  obtain ⟨hlen, hgcnt, hbidx, hicnt, -⟩ := hpos
  have hwlim := toNat_wlim hgcnt hpad
  have hne : t.env.input.drop t.icnt.toNat ≠ [] := by simp; omega
  have hdrop : t.env.input.drop (t.icnt + 3).toNat = (t.env.input.drop t.icnt.toNat).drop 3 := by
    rw [List.drop_drop, show (t.icnt + 3).toNat = t.icnt.toNat + 3 by bv_omega]
  refine ⟨.inr rfl, ?_, ?_⟩
  · have hlast : groupStream (decryptGroup t.cfg (subkeys t)) (t.env.input.drop (t.icnt + 3).toNat) = []
          ∧ (if t.gcnt = t.gtot - 1 then 3 - t.st.pad else 3 : BitVec 2).toNat = 3 - t.st.pad.toNat
        ∨ 3 ≤ (groupStream (decryptGroup t.cfg (subkeys t)) (t.env.input.drop (t.icnt + 3).toNat)).length
          ∧ (if t.gcnt = t.gtot - 1 then 3 - t.st.pad else 3 : BitVec 2).toNat = 3 := by
      rw [← List.length_eq_zero_iff, length_groupStream, hwlim, hdrop, List.length_drop, List.length_drop]
      split <;> omega
    have hsplit := rdrop_groupBytes_append (g := decryptGroup t.cfg (subkeys t) (unpack (nextBytes 3 t))) hpad hlast
    simp only [decPending, hp]
    rw [groupStream_of_ne_nil _ hne, ← nextBytes_three hl, ← hdrop, hsplit]
    rfl
  · have hleft : decLeft (decTake (nextBytes 3 t) (asked (.inRead 3) rest t))
        = (if t.gcnt = t.gtot - 1 then 3 - t.st.pad else 3 : BitVec 2).toNat
          + if t.gcnt.toNat + 1 = t.gtot.toNat then 0 else 4 * (t.gtot.toNat - t.gcnt.toNat - 1) - t.st.pad.toNat := rfl
    rw [hleft, hwlim]
    simp only [decLeft, hp]
    split <;> omega

/-- A step of DECODE, answered Ok, that is not its last. -/
theorem Advances.decKeeps {t' : State} (h : Advances t rest t') (hs : Placed t)
    (hp : t.st.phase = .decHdr ∨ t.st.phase = .decRead ∨ t.st.phase = .decWrite) (hrun : t'.st.phase ≠ .idle) : DecKeeps t t' := by
  have hpos := hs.1
  have hpos' := (h.placed hs).1
  have hpad := hs.2
  cases h with
  | decHdr hp hl hd hg hle =>
    rename_i p tail
    simp only [StreamPos, hp] at hpos
    obtain ⟨-, -, hicnt, -, hgcnt, -⟩ := hpos
    have hinput : t.env.input = p :: tail := by simpa [hicnt] using hd
    refine ⟨.inl rfl, ?_, ?_⟩
    · simp [decPending, hp, subkeys, hinput, toNat_pad hle, decodedStream, groupStream, List.rdrop]
    · simp [decLeft, hp, hinput, toNat_pad hle, hgcnt, -BitVec.extractLsb'_toNat]
      bv_omega
  | decTake hp hl => exact decTake_keeps hs hp hl
  | decByte hp hb =>
    simp only [StreamPos, hp] at hpos
    obtain ⟨-, -, -, hbidx, -⟩ := hpos
    refine ⟨.inr hp, ?_, ?_⟩
    · simp [decPending, hp, byteWritten, subkeys, drop_take_groupBytes _ hbidx]
    · simp [decLeft, hp, byteWritten]
      bv_omega
  | decGroup hp hb hg =>
    simp only [StreamPos, hp] at hpos
    obtain ⟨-, hgcnt, hwlim, hbidx, -⟩ := hpos
    have hbyte := drop_take_groupBytes t.buf hbidx
    rw [hb, List.drop_take_self] at hbyte
    refine ⟨.inl rfl, ?_, ?_⟩
    · simp [decPending, hp, byteWritten, subkeys, hbyte]
    · have hlast : t.gcnt.toNat + 1 ≠ t.gtot.toNat := fun heq => hg (by bv_omega)
      simp [decLeft, hp, byteWritten, hlast]
      rw [← hb]
      bv_omega
  | encEnd | decLone | decFormat | decEnd => simp at hrun
  | encHdr hp' | encTake hp' | encByte hp' | encGroup hp' => simp [hp'] at hp

/-- A DECODE on its way from the state `u`. -/
structure DecRunning (u t : State) : Prop where
  frame : RunningFrame u t
  phase : t.st.phase = .decHdr ∨ t.st.phase = .decRead ∨ t.st.phase = .decWrite
  placed : Placed t
  input : t.env.input.length = t.len.toNat
  output : t.env.output ++ decPending t = u.env.output ++ decPending u

/-- A DECODE from `u` has come to its end in `v`, all its input read and all its output written. -/
structure DecLast (u v : State) : Prop where
  frame : RunningFrame u v
  output : v.env.output = u.env.output ++ decPending u
  icnt : v.icnt = v.len
  gcnt : v.gcnt = v.gtot
  len : v.len.toNat = 1 + 3 * v.gtot.toNat

/-- A DECODE on its way from `u` has ended in `t` without error. -/
def DecDone (u t : State) : Prop := ∃ v, DecLast u v ∧ t = streamFinish .noError v

/-- The padding byte of an input stream is bad: above 2, or not 0 where there is no group (R165). -/
def BadPadding (u : State) : Prop := ∃ p tail, u.env.input = p :: tail ∧ (2 < p.toNat ∨ (u.gtot = 0 ∧ p ≠ 0))

/-- A DECODE on its way from `u` has ended in `t` at a bad padding byte. -/
def DecBadPadding (u t : State) : Prop := BadPadding u ∧ ∃ v, RunningFrame u v ∧ t = streamRaise .format v

/-- With no group and padding count 0 nothing is written (R165). -/
theorem DecRunning.lone {tail : List Byte} (h : DecRunning u t) (hp : t.st.phase = .decHdr)
    (hd : t.env.input.drop t.icnt.toNat = 0 :: tail) (hg : t.gtot = 0) :
    DecLast u { asked (.inRead 1) rest t with icnt := 1, st := { t.st with pad := 0 } } ∧ decLeft t = 1 := by
  have hpos := h.placed.1
  simp only [StreamPos, hp] at hpos
  obtain ⟨hlen, hgtot, hicnt, -, hgcnt, -⟩ := hpos
  simp only [hicnt] at hd
  have hinput : t.env.input = 0 :: tail := hd
  have hl := h.input
  rw [hinput, List.length_cons] at hl
  rw [hg] at hgtot
  have hone : t.len.toNat = 1 := by
    have hzero : (0 : Word).toNat = 0 := rfl
    omega
  obtain rfl : tail = [] := List.length_eq_zero_iff.1 (by omega)
  refine ⟨⟨h.frame.trans rfl, ?_, ?_, ?_, ?_⟩, ?_⟩
  · have hpending : decPending t = [] := by simp only [decPending, hp, hinput]; rfl
    simpa [hpending] using h.output
  · exact BitVec.eq_of_toNat_eq hone.symm
  · exact hgcnt.trans hg.symm
  · simpa [hg] using hone
  · simp [decLeft, hp, hinput, hg]

/-- The last byte of the last group leaves nothing to write (R167). -/
theorem DecRunning.last (h : DecRunning u t) (hp : t.st.phase = .decWrite) (hb : t.st.bidx + 1 = t.wlim)
    (hg : t.gcnt + 1 = t.gtot) : DecLast u (groupDone (byteWritten rest t)) ∧ decLeft t = 1 := by
  have hpos := h.placed.1
  simp only [StreamPos, hp] at hpos
  obtain ⟨hlen, hgcnt, -, hbidx, hicnt, -⟩ := hpos
  have hlast : t.gcnt.toNat + 1 = t.gtot.toNat := by bv_omega
  have hall : t.icnt.toNat = t.len.toNat := by omega
  have hbyte := drop_take_groupBytes t.buf hbidx
  rw [hb, List.drop_take_self] at hbyte
  refine ⟨⟨h.frame.trans rfl, ?_, BitVec.eq_of_toNat_eq hall, hg, hlen⟩, ?_⟩
  · have hnone : t.env.input.drop t.icnt.toNat = [] := List.drop_eq_nil_of_le (h.input.trans hall.symm).le
    have hpending : decPending t = [groupByte t.buf t.st.bidx] := by
      simp [decPending, hp, hbyte, hnone]
    simpa [hpending, byteWritten] using h.output
  · simp only [decLeft, hp, hlast, if_true]
    rw [← hb] at hbidx ⊢
    bv_omega

theorem DecRunning.advances {t' : State} (h : DecRunning u t) (hadv : Advances t rest t') :
    (DecRunning u t' ∧ decLeft t = decLeft t' + 1) ∨ (DecDone u t' ∧ decLeft t = 1) ∨ DecBadPadding u t' := by
  by_cases hidle : t'.st.phase = .idle
  · cases hadv with
    | decLone hp hl hd hg =>
      obtain ⟨hlast, hleft⟩ := h.lone (rest := rest) hp hd hg
      exact .inr (.inl ⟨⟨_, hlast, rfl⟩, hleft⟩)
    | decEnd hp hb hg =>
      obtain ⟨hlast, hleft⟩ := h.last (rest := rest) hp hb hg
      exact .inr (.inl ⟨⟨_, hlast, rfl⟩, hleft⟩)
    | decFormat hp hl hd hbad =>
      have hinput : t.env.input = u.env.input := congrArg (·.env.input) h.frame
      have hgtot : t.gtot = u.gtot := congrArg (·.gtot) h.frame
      have hpos := h.placed.1
      simp only [StreamPos, hp] at hpos
      obtain ⟨-, -, hicnt, -⟩ := hpos
      simp only [hicnt, hinput] at hd
      exact .inr (.inr ⟨⟨_, _, hd, hgtot ▸ hbad⟩, { asked (.inRead 1) rest t with icnt := 1 }, h.frame.trans rfl, rfl⟩)
    | encHdr | encTake | encGroup | decHdr | decTake | decGroup => exact nomatch hidle
    | encByte hp | decByte hp => exact nomatch hp.symm.trans hidle
    | encEnd hp => simpa [hp] using h.phase
  · obtain ⟨-, hframe⟩ | ⟨e, w, hend, -⟩ := hadv.runs_or_ends
    · have hkeeps := hadv.decKeeps h.placed h.phase hidle
      refine .inl ⟨⟨h.frame.trans hframe, .inr hkeeps.phase, hadv.placed h.placed, ?_, hkeeps.output.trans h.output⟩,
        hkeeps.left⟩
      rw [hframe]; exact h.input
    · obtain rfl | rfl := hend <;> simp at hidle

theorem DecRunning.left_pos (h : DecRunning u t) : 0 < decLeft t := by
  obtain ⟨hpos, hpad⟩ := h.placed
  obtain hp | hp | hp := h.phase <;> simp only [decLeft, hp, StreamPos] at hpos ⊢ <;> omega

theorem decCourse (hactions : u.env.actions = []) (hbusy : u.st.busy = true) :
    StreamCourse (DecRunning u) decLeft (DecDone u) (DecBadPadding u) where
  actions h := (congrArg (·.env.actions) h.frame).trans hactions
  busy h := h.frame.busy.trans hbusy
  phase h hidle := by simpa [hidle] using h.phase
  input h := h.input
  pos h := h.placed.1
  advances h hadv := h.advances hadv
  left_pos h := h.left_pos
  stopped h := by
    obtain ⟨v, hlast, rfl⟩ | ⟨-, v, hframe, rfl⟩ := h
    · exact ⟨by simpa using (congrArg (·.env.actions) hlast.frame).trans hactions, by simp⟩
    · exact ⟨by simpa using (congrArg (·.env.actions) hframe).trans hactions, by simp⟩

end DecodeCourse

section DecodeStatements

variable {s t : State} {ks : List Byte}

/-- The state an issued DECODE runs on from. -/
def decFrom (ks : List Byte) (s : State) : State := decodeStarted ks (s.env.answers.drop 2) (s.awaiting [])

theorem decPending_decFrom (hr : schedule s.cfg s.key s.nr = some ks) :
    decPending (decFrom ks s) = decodedStream s.cfg ks s.env.input := by
  have hkeys : subkeys (decFrom ks s) = ks := take_fillRk hr
  rw [decPending, hkeys]
  rfl

theorem decRunning_decFrom (hl : s.env.input.length = s.len.toNat) (hlen : s.len.toNat % 3 = 1) :
    DecRunning (decFrom ks s) (decFrom ks s) :=
  ⟨rfl, .inl rfl, placed_decodeStarted _ _ hlen, hl, rfl⟩

theorem exec_decode_course (hr : schedule s.cfg s.key s.nr = some ks) (hl : s.env.input.length = s.len.toNat)
    (h : exec .decode (s.awaiting []) = .next t) :
    t = reissue .decode (s.awaiting []) ∨ StartRaises (s.awaiting []) t ∨ DecRunning (decFrom ks s) t := by
  obtain ht | ht | ⟨r, rest, hr', ha, hlen, rfl⟩ := exec_decode_cases h
  · exact .inl ht
  · exact .inr (.inl ht)
  · obtain rfl : r = ks := Option.some.inj (hr'.symm.trans hr)
    have hu : decodeStarted r rest (s.awaiting []) = decFrom r s := by
      rw [decFrom, show s.env.answers = _ from ha]
      rfl
    exact .inr (.inr (hu ▸ decRunning_decFrom hl hlen))

/-- What an issued DECODE that has ended has come to. -/
theorem decode_ended {k : Nat} (hb : s.st.busy = false) (hr : schedule s.cfg s.key s.nr = some ks)
    (hl : s.env.input.length = s.len.toNat) (hrun : RunsTo k (s.issuing .decode) t) (hend : Ended t) :
    StartRaises (s.awaiting []) t ∨ (DecDone (decFrom ks s) t ∨ DecBadPadding (decFrom ks s) t) ∨ IoError t :=
  (decCourse (u := decFrom ks s) rfl rfl).run_ended rfl hb (exec_decode_course hr hl) hrun hend

/-- An issued DECODE that has ended without error has run its whole course. -/
theorem decode_done {k : Nat} (hb : s.st.busy = false) (hr : schedule s.cfg s.key s.nr = some ks)
    (hl : s.env.input.length = s.len.toNat) (hrun : RunsTo k (s.issuing .decode) t) (hend : Ended t)
    (herr : t.st.err = .noError) : DecDone (decFrom ks s) t := by
  obtain ⟨e, w, rfl, hne, -⟩ | (hdone | ⟨-, v, -, rfl⟩) | ⟨-, hio⟩ := decode_ended hb hr hl hrun hend
  · exact absurd (by simpa using herr) hne
  · exact hdone
  · simp at herr
  · simp [herr] at hio

theorem DecDone.ended {u : State} (hactions : u.env.actions = []) (h : DecDone u t) :
    Ended t ∧ t.st.err = .noError ∧ t.st.done = true := by
  obtain ⟨v, hlast, rfl⟩ := h
  exact ⟨⟨by simpa using (congrArg (·.env.actions) hlast.frame).trans hactions, by simp⟩, by simp, by simp⟩

theorem DecDone.output {u : State} (h : DecDone u t) : t.env.output = u.env.output ++ decPending u := by
  obtain ⟨v, hlast, rfl⟩ := h
  simpa using hlast.output

end DecodeStatements

/-- Settles O41: the course of DECODE moves every byte of the decoded stream to the output. -/
theorem decodeOutput : Obligations.DecodeOutput := by
  unfold Obligations.DecodeOutput
  intro s t ks k hidle hr hl hrun hend herr
  have hdone := decode_done hidle.1 hr hl hrun hend herr
  have houtput : t.env.output = decodedStream s.cfg ks s.env.input := hdone.output.trans (decPending_decFrom hr)
  obtain ⟨v, ⟨hframe, -, hicnt, hgcnt, hlen⟩, rfl⟩ := hdone
  have hlen' : v.len = s.len := congrArg (·.len) hframe
  rw [hlen'] at hicnt hlen
  have htrusted : v.env.outputTrusted = true := congrArg (·.env.outputTrusted) hframe
  refine ⟨houtput, by omega, ?_, ?_, ?_, ?_⟩
  · simpa using hicnt
  · simp [hgcnt]; omega
  · simpa using hgcnt.symm
  · simpa using htrusted

/-- Settles O44: one CMD step, then the steps `decLeft` counts. -/
theorem decodeStepCount : Obligations.DecodeStepCount := by
  unfold Obligations.DecodeStepCount
  intro s p body G hidle h1 h9 hinput hl hbody hp hlone hok hle
  obtain ⟨ks, hr⟩ := exists_schedule s.cfg s.key h1 h9
  obtain ⟨rest, ha⟩ := exists_two_ok hok (by omega)
  have hlength : s.len.toNat = 3 * G + 1 := by rw [← hl, hinput, List.length_cons, hbody]
  have hlen : s.len.toNat % 3 = 1 := by omega
  have hstart : step (s.issuing .decode) = .next (decFrom ks s) := by
    rw [step_issuing rfl hidle.1, exec_decode_starts (s := s.awaiting []) hr ha hlen, decFrom, ha]
    rfl
  have hanswers : (decFrom ks s).env.answers = rest := by rw [decFrom, ha]; rfl
  have hgtot : (decFrom ks s).gtot.toNat = G := by
    have hmod : ((s.len.toNat - 1) / 3) % 2 ^ 32 = G := by omega
    exact hmod
  have hnone : G = 0 → p.toNat = 0 := fun hG => congrArg BitVec.toNat (hlone hG)
  have hleft : decLeft (decFrom ks s) + 1 = 2 + 4 * G - p.toNat := by
    have hcount : decLeft (decFrom ks s) = 1 + (4 * (decFrom ks s).gtot.toNat - min 2 (s.env.input.headD 0).toNat) := rfl
    rw [hcount, hgtot, hinput, List.headD_cons]
    omega
  have hgood (t : State) : ¬ DecBadPadding (decFrom ks s) t := by
    rintro ⟨⟨p', tail, hin, hbad⟩, -⟩
    cases hinput.symm.trans hin
    obtain hbig | ⟨hzero, hne⟩ := hbad
    · omega
    · exact hne (hlone (hgtot.symm.trans (congrArg BitVec.toNat hzero)))
  obtain ⟨⟨t, hrun, hdone⟩, hbusy⟩ := (decCourse rfl rfl).issued_completes hgood hstart (decRunning_decFrom hl hlen)
    (by rw [hanswers]; intro a hmem; exact hok a (by simp [ha, hmem]))
    (by rw [ha, List.length_cons, List.length_cons] at hle; rw [hanswers]; omega)
  rw [hleft] at hrun hbusy
  exact ⟨⟨t, hrun, hdone.ended rfl⟩, hbusy⟩

end Sys2Proof.Machine

/-! # A DECODE of an ENCODE's output (43_stream_codec.md R169)

On bytes the decoded stream of an encoded stream is the plaintext: the groups decrypt to the plaintext's groups, whose missing bytes
are the padding that the count in the header cuts off. On the machine the output of the one command is the input of the other. -/

namespace Sys2Proof.Machine

section RoundTrip

/-! ## Groups and their bytes (R153, R154) -/

theorem groupByte_unpack (bs : List Byte) {j : BitVec 2} (hj : j.toNat < 3) : groupByte (unpack bs) j = bs.getD j.toNat 0 :=
  extractLsb'_unpack bs hj

/-- Unpacking a group fills it up with zero bytes (R153). -/
theorem groupBytes_unpack (bs : List Byte) : groupBytes (unpack bs) = [bs.getD 0 0, bs.getD 1 0, bs.getD 2 0] := by
  rw [groupBytes, groupByte_unpack _ (by decide), groupByte_unpack _ (by decide), groupByte_unpack _ (by decide)]
  rfl

theorem group_ext_of_bytes {g h : Group} (hbytes : groupBytes g = groupBytes h) : g = h := by
  have hbyte : ∀ j < 3, g.extractLsb' (8 * j) 8 = h.extractLsb' (8 * j) 8 := by
    simp only [groupBytes, List.cons.injEq] at hbytes
    obtain ⟨h0, h1, h2, -⟩ := hbytes
    intro j hj
    interval_cases j
    · exact h0
    · exact h1
    · exact h2
  refine BitVec.eq_of_getLsbD_eq fun i hi => ?_
  have hbit := congrArg (·.getLsbD (i % 8)) (hbyte (i / 8) (by omega))
  simpa [-BitVec.getLsbD_eq_getElem, Nat.div_add_mod, Nat.mod_lt] using hbit

theorem unpack_groupBytes (g : Group) : unpack (groupBytes g) = g :=
  group_ext_of_bytes (groupBytes_unpack _)

/-! ## Streams of groups -/

theorem groupStream_groupBytes_append (f : Group → Group) (g : Group) (tail : List Byte) :
    groupStream f (groupBytes g ++ tail) = groupBytes (f g) ++ groupStream f tail := by
  have hfirst := groupStream_of_ne_nil f (bs := groupBytes g ++ tail) (by simp [groupBytes])
  have hunpack : unpack ((groupBytes g ++ tail).take 3) = g := unpack_groupBytes g
  rw [hfirst, hunpack]
  rfl

theorem groupStream_groupStream (f g : Group → Group) (bs : List Byte) :
    groupStream f (groupStream g bs) = groupStream (f ∘ g) bs := by
  induction h : bs.length using Nat.strongRecOn generalizing bs with
  | ind n ih =>
    by_cases hne : bs = []
    · subst hne; rfl
    · have hlen := List.length_pos_iff.2 hne
      rw [groupStream_of_ne_nil g hne, groupStream_of_ne_nil (f ∘ g) hne, groupStream_groupBytes_append,
        ih _ (by simp; omega) _ rfl]
      rfl

/-- The bytes of a plaintext's groups are the plaintext and its padding. -/
theorem groupStream_id (bs : List Byte) : groupStream id bs = bs ++ List.replicate (padcount bs.length) 0 := by
  induction bs using chunks.induct with
  | case1 => rfl
  | case2 a => simp [groupStream, chunks, groupBytes_unpack, padcount]
  | case3 a b => simp [groupStream, chunks, groupBytes_unpack, padcount]
  | case4 a b c rest ih =>
    have hpad : padcount (a :: b :: c :: rest).length = padcount rest.length := by
      simp only [padcount, List.length_cons]
      omega
    rw [groupStream_of_ne_nil _ (List.cons_ne_nil _ _), hpad]
    simp [groupBytes_unpack, ih]

theorem decodedStream_encodedStream (cfg : Config) (ks bs : List Byte) :
    decodedStream cfg ks (encodedStream cfg ks bs) = bs := by
  have hid : decryptGroup cfg ks ∘ encryptGroup cfg ks = id := funext (decryptGroup_encryptGroup cfg ks)
  have hpad : (BitVec.ofNat 8 (padcount bs.length)).toNat = padcount bs.length :=
    Nat.mod_eq_of_lt (by have := padcount_le bs.length; omega)
  calc decodedStream cfg ks (encodedStream cfg ks bs)
    _ = (groupStream (decryptGroup cfg ks) (groupStream (encryptGroup cfg ks) bs)).rdrop
          (BitVec.ofNat 8 (padcount bs.length)).toNat := rfl
    _ = (bs ++ List.replicate (padcount bs.length) 0).rdrop (padcount bs.length) := by
      rw [groupStream_groupStream, hid, groupStream_id, hpad]
    _ = bs := by simp [List.rdrop]

end RoundTrip

section HandOver

variable {s t : State}

/-- Nothing runs on. -/
theorem noCourse : StreamCourse (fun _ => False) (fun _ => 0) (fun _ => False) fun _ => False where
  actions h := h.elim
  busy h := h.elim
  phase h := h.elim
  input h := h.elim
  pos h := h.elim
  advances h := h.elim
  left_pos h := h.elim
  stopped h := (h.elim id id).elim

/-- An issued ENCODE that has ended without error has had a schedule. -/
theorem exists_schedule_of_encode {k : Nat} (hb : s.st.busy = false) (hrun : RunsTo k (s.issuing .encode) t) (hend : Ended t)
    (herr : t.st.err = .noError) : ∃ ks, schedule s.cfg s.key s.nr = some ks := by
  refine Option.ne_none_iff_exists'.1 fun hnone => ?_
  have hstart {u : State} (h : exec .encode (s.awaiting []) = .next u) :
      u = reissue .encode (s.awaiting []) ∨ StartRaises (s.awaiting []) u ∨ False := by
    refine (exec_encode_cases h).imp_right (Or.imp_right fun ⟨r, _, hr, _⟩ => ?_)
    exact nomatch hnone.symm.trans hr
  obtain ⟨e, w, rfl, hne, -⟩ | (⟨⟨⟩⟩ | ⟨⟨⟩⟩) | ⟨-, hio⟩ := noCourse.run_ended rfl hb hstart hrun hend
  · exact hne (by simpa using herr)
  · simp [herr] at hio

/-- An ENCODE that has ended without error leaves the CORE idle, with the parameters and operands it had. -/
theorem EncDone.operands {u : State} (h : EncDone u t) : t.st.busy = false ∧ t.cfg = u.cfg ∧ t.key = u.key ∧ t.nr = u.nr := by
  obtain ⟨v, rest, hlast, rfl⟩ := h
  have hframe := hlast.running.frame
  exact ⟨by simp, by simpa using congrArg (·.cfg) hframe, by simpa using congrArg (·.key) hframe,
    by simpa using congrArg (·.nr) hframe⟩

/-- The header of an encoded stream is a good padding byte (R165, R168). -/
theorem not_badPadding {ks bs : List Byte} (hin : s.env.input = encodedStream s.cfg ks bs)
    (hl : s.env.input.length = s.len.toNat) : ¬ BadPadding (decFrom ks s) := by
  rintro ⟨p, tail, hcons, hbad⟩
  cases hin.symm.trans hcons
  have hle := padcount_le bs.length
  have hpad : (BitVec.ofNat 8 (padcount bs.length)).toNat = padcount bs.length := Nat.mod_eq_of_lt (by omega)
  obtain hbig | ⟨hzero, hne⟩ := hbad
  · omega
  · have hgtot : (s.len.toNat - 1) / 3 % 2 ^ 32 = 0 := congrArg BitVec.toNat hzero
    have hlength : s.len.toNat = 3 * ((bs.length + 2) / 3) + 1 := by
      rw [← hl, hin, encodedStream, List.length_cons, ← groupStream, length_groupStream]
    have hnone : padcount bs.length = 0 := by unfold padcount; omega
    exact hne (by rw [hnone]; rfl)

/-- A DECODE of an encoded stream never ends in FORMAT, and without error it writes the plaintext. -/
theorem decode_of_encoded {ks bs : List Byte} {k : Nat} (hb : s.st.busy = false)
    (hr : schedule s.cfg s.key s.nr = some ks) (hin : s.env.input = encodedStream s.cfg ks bs)
    (hl : s.env.input.length = s.len.toNat) (hrun : RunsTo k (s.issuing .decode) t) (hend : Ended t) :
    t.st.err ≠ .format ∧ (t.st.err = .noError → t.env.output = bs) := by
  obtain ⟨e, w, rfl, hne, hformat, -⟩ | (hdone | ⟨hbad, -⟩) | ⟨-, hio⟩ := decode_ended hb hr hl hrun hend
  · have hlength : s.len.toNat % 3 = 1 := by
      rw [← hl, hin, encodedStream, List.length_cons, ← groupStream, length_groupStream]
      omega
    have herr : (streamRaise e w).st.err = e := by simp
    rw [herr]
    exact ⟨fun he => hformat he hlength, fun he => absurd he hne⟩
  · refine ⟨by simp [(hdone.ended rfl).2.1], fun _ => ?_⟩
    calc t.env.output
      _ = decPending (decFrom ks s) := hdone.output
      _ = bs := by rw [decPending_decFrom hr, hin, decodedStream_encodedStream]
  · exact absurd hbad (not_badPadding hin hl)
  · obtain hio | hio := hio <;> simp [hio]

end HandOver

/-- Settles O42: the two courses, with `decodedStream_encodedStream` between them. -/
theorem streamRoundTrip : Obligations.StreamRoundTrip := by
  unfold Obligations.StreamRoundTrip
  intro s t v answers j k hidle hl hrun hend herr hlt hrun' hend'
  obtain ⟨ks, hr⟩ := exists_schedule_of_encode hidle.1 hrun hend herr
  have hdone := encode_done hidle.1 hr hl hrun hend herr
  have houtput : t.env.output = encodedStream s.cfg ks s.env.input := hdone.output.trans (encPending_encFrom hr hl)
  obtain ⟨hb, hcfg, hkey, hnr⟩ := hdone.operands
  refine decode_of_encoded (ks := ks) ?_ ?_ ?_ ?_ hrun' hend'
  · exact hb
  · rw [hcfg, hkey, hnr]; exact hr
  · rw [hcfg]; exact houtput
  · exact (Nat.mod_eq_of_lt hlt).symm

end Sys2Proof.Machine

/-! # The key schedule and KEYGEN (40_key_schedule.md R100 to R106)

A subkey bit is the key bit its window row names; everything said of subkeys follows bit by bit, from bit 7 down as the window lists
them (R102). -/

namespace Sys2Proof.Machine

section Subkeys

/-! ## Subkeys bit by bit (R101, R102) -/

/-- Bit 7 - j of a subkey is the key bit that entry j of its window row names. -/
theorem getLsbD_windowBits (row : Vector (Fin 9) 8) (K : Key) (j : Fin 8) :
    (windowBits row K).getLsbD (7 - j.val) = K.getLsbD row[j].val := by
  unfold windowBits
  fin_cases j <;> simp only [BitVec.getLsbD_append] <;> simp

/-- Bytes are equal if they are from bit 7 down. -/
theorem byte_ext {a b : Byte} (h : ∀ j : Fin 8, a.getLsbD (7 - j.val) = b.getLsbD (7 - j.val)) : a = b := by
  refine BitVec.eq_of_getLsbD_eq fun i hi => ?_
  have hbit := h ⟨7 - i, by omega⟩
  rwa [show 7 - (7 - i) = i by omega] at hbit

theorem windowBits_zero (row : Vector (Fin 9) 8) : windowBits row 0 = 0 :=
  byte_ext fun j => by rw [getLsbD_windowBits]; simp

theorem windowBits_allOnes (row : Vector (Fin 9) 8) : windowBits row 0x1FF = 0xFF := by
  have hkey (i : Fin 9) : (0x1FF : Key).getLsbD i.val = true := by revert i; decide
  have hbyte (j : Fin 8) : (0xFF : Byte).getLsbD (7 - j.val) = true := by revert j; decide
  exact byte_ext fun j => by rw [getLsbD_windowBits, hkey, hbyte]

/-- Entry i of a schedule of n subkeys, 0 where it has none (R104). -/
theorem schedule_getD {cfg : Config} {K : Key} {n : Word} {r : List Byte} (h : schedule cfg K n = some r) (i : Fin 9) :
    r.getD i.val 0 = if i.val < n.toNat then subkey cfg K i else 0 := by
  obtain ⟨-, -, rfl⟩ := schedule_eq_some h
  have hindex : ([0, 1, 2, 3, 4, 5, 6, 7, 8] : List (Fin 9))[i.val]? = some i := by revert i; decide
  rw [List.getD_eq_getElem?_getD, List.getElem?_map, List.getElem?_take, hindex]
  split <;> rfl

/-! ## The default window (R101, R102) -/

/-- The default window runs through the key from bit 8 - i down, round and round. -/
theorem defaultKsWindow_entry (i : Fin 9) (j : Fin 8) : (defaultKsWindow[i][j]).val = 8 - (i.val + j.val) % 9 := by
  revert i j; decide

theorem getLsbD_subkey_default {cfg : Config} (h : cfg.ksWindow = defaultKsWindow) (K : Key) (i : Fin 9) (j : Fin 8) :
    (subkey cfg K i).getLsbD (7 - j.val) = K.getLsbD (8 - (i.val + j.val) % 9) := by
  rw [subkey, h, getLsbD_windowBits, defaultKsWindow_entry]

/-- A schedule depends on the parameters only by their window. -/
theorem schedule_default {cfg : Config} (h : cfg.ksWindow = defaultKsWindow) (K : Key) (n : Word) :
    schedule cfg K n = schedule defaultConfig K n := by
  have hsubkey : subkey cfg K = subkey defaultConfig K := funext fun i => by rw [subkey, h]; rfl
  rw [schedule, hsubkey]
  rfl

/-- The doubled key shifted, bit by bit. -/
theorem getLsbD_doubledKey (K : Key) (i : Fin 9) (j : Fin 8) :
    (((K ++ K) >>> (10 - i.val)).extractLsb' 0 8).getLsbD (7 - j.val) = K.getLsbD (8 - (i.val + j.val) % 9) := by
  have hj : 7 - j.val < 8 := by omega
  simp only [BitVec.getLsbD_extractLsb', hj, decide_true, Bool.true_and, BitVec.getLsbD_ushiftRight, BitVec.getLsbD_append]
  split
  · exact congrArg _ (by omega)
  · exact congrArg _ (by omega)

/-- The rotated key, bit by bit. -/
theorem getLsbD_rotatedKey (K : Key) (i : Fin 9) (j : Fin 8) :
    ((K.rotateLeft i.val).extractLsb' 1 8).getLsbD (7 - j.val) = K.getLsbD (8 - (i.val + j.val) % 9) := by
  have hj : 7 - j.val < 8 := by omega
  have hi : i.val % 9 = i.val := Nat.mod_eq_of_lt i.isLt
  simp only [BitVec.getLsbD_extractLsb', hj, decide_true, Bool.true_and, BitVec.getLsbD_rotateLeft, hi,
    cond_eq_ite, decide_eq_true_eq]
  split
  · exact congrArg _ (by omega)
  · rw [decide_eq_true (by omega), Bool.true_and]
    exact congrArg _ (by omega)

end Subkeys

/-! ## The statements -/

/-- Settles O12: each form has the same bits. -/
theorem defaultWindowThreeForms : Obligations.DefaultWindowThreeForms := by
  unfold Obligations.DefaultWindowThreeForms
  intro cfg K i h
  have hbit := getLsbD_subkey_default h K i
  exact ⟨byte_ext fun j => (hbit j).trans (getLsbD_doubledKey K i j).symm, hbit,
    byte_ext fun j => (hbit j).trans (getLsbD_rotatedKey K i j).symm⟩

/-- Running KEYGEN again changes nothing (R104). -/
theorem exec_keygen_again {s t : State} (h : exec .keygen s = .next t) : exec .keygen t = .next t := by
  cases hs : schedule s.cfg s.key s.nr with
  | none =>
    have hout := (schedule_eq_none ..).1 hs
    cases (exec_keygen_config hout).symm.trans h
    exact exec_keygen_config hout
  | some r =>
    cases (exec_keygen_loads hs).symm.trans h
    exact exec_keygen_loads (s := finish .noError (loadSchedule r s.nr (accept s))) hs

/-- Settles O11: KEYGEN's two outcomes; the entries of the file by `schedule_getD`. -/
theorem keygenResult : Obligations.KeygenResult := by
  unfold Obligations.KeygenResult
  obtain ⟨-, hdropped, -⟩ := cmdWriteIssuesCommand
  refine ⟨by decide, fun s hn => exec_keygen_config (by omega), fun s h1 h9 => ?_, fun s t => exec_keygen_again,
    fun s rest hb => hdropped s rest _ hb⟩
  obtain ⟨r, hr⟩ := exists_schedule s.cfg s.key h1 h9
  have hentry (i : Fin 9) : (fillRk r)[i] = if i.val < s.nr.toNat then subkey s.cfg s.key i else 0 :=
    (getElem_fillRk r i).trans (schedule_getD hr i)
  refine ⟨fillRk r, exec_keygen_loads hr, fun i j hi => ?_, fun i hi => ?_, fun hkey i => ?_, fun hkey i hi => ?_,
    fun hwindow hkey hnr => ?_⟩
  · rw [hentry, if_pos hi, subkey, getLsbD_windowBits]
  · rw [hentry, if_neg (by omega)]
  · rw [hentry, hkey, subkey, windowBits_zero, ite_self]
  · rw [hentry, if_pos hi, hkey, subkey, windowBits_allOnes]
  · have hexample : schedule s.cfg s.key s.nr = some [0xE0, 0xC0] := by
      rw [hkey, hnr, schedule_default hwindow]
      decide
    cases hr.symm.trans hexample
    rfl

end Sys2Proof.Machine

/-! # Frames: what commands, CORE steps and reset leave as it was (10_state.md R21 to R45; 60_exceptions.md R203 to R217)

`Completes` says once how a command that is no stream command ends; the frame statements are read off it, off `RunsOnOrEnds` for the
CORE steps and off the outcomes of a start step. -/

namespace Sys2Proof.Machine

section Commands

/-! ## Commands (60_exceptions.md R203, R204) -/

/-- How a command other than ENCODE and DECODE completes. -/
inductive Completes (i : Instr) (s : State) : State → Prop
  | nop (hi : i = .nop) : Completes i s (finish .noError s)
  | clr (hi : i = .clr) : Completes i s { s with st := { s.st with err := .noError, ovr := false, done := false } }
  | keygenFails (hi : i = .keygen) : Completes i s (finish .config (clearSchedule s))
  | keygen (hi : i = .keygen) (r : List Byte) : Completes i s (finish .noError (loadSchedule r s.nr s))
  | result (hi : i ≠ .nop ∧ i ≠ .clr ∧ i ≠ .keygen) {v : Word} (hv : v.toNat < 2 ^ 24) : Completes i s (finishResult v s)
  | noKeys (hi : i ≠ .nop ∧ i ≠ .clr ∧ i ≠ .keygen) : Completes i s (finish .noKeys s)

theorem exec_completes {i : Instr} {s t : State} (hi : i.isStream = false) (h : exec i s = .next t) : Completes i s t := by
  cases i with
  | encode | decode => cases hi
  | nop => cases h; exact .nop rfl
  | clr => cases h; exact .clr rfl
  | keygen =>
    cases hr : schedule s.cfg s.key s.nr with
    | none => cases (exec_keygen_config ((schedule_eq_none ..).1 hr)).symm.trans h; exact .keygenFails rfl
    | some r => cases (exec_keygen_loads hr).symm.trans h; exact .keygen rfl r
  | _ =>
    obtain ⟨⟨⟩, -⟩ | ⟨⟨⟩, -⟩ | ⟨-, -, v, hv, rfl⟩ | ⟨-, -, rfl⟩ | ⟨⟨⟩, -⟩ | ⟨⟨⟩, -⟩ | ⟨⟨⟩, -⟩ := exec_next h
    · exact .result (by simp) hv
    · exact .noKeys (by simp)

/-- The registers the host writes, and DOUT, are as they were. -/
def SameOperands (s t : State) : Prop :=
  t.key = s.key ∧ t.nr = s.nr ∧ t.din = s.din ∧ t.sk = s.sk ∧ t.len = s.len ∧ t.dout = s.dout

theorem StartRaises.sameOperands {s t : State} (h : StartRaises s t) : SameOperands s t := by
  obtain ⟨e, u, rfl, -, -, hframe⟩ := h
  simp only [SameOperands, streamRaise_key, streamRaise_nr, streamRaise_din, streamRaise_sk, streamRaise_len, streamRaise_dout]
  rw [hframe]
  exact ⟨rfl, rfl, rfl, rfl, rfl, rfl⟩

theorem exec_stream_sameOperands {i : Instr} {s t : State} (hi : i = .encode ∨ i = .decode) (h : exec i s = .next t) :
    SameOperands s t := by
  obtain rfl | rfl := hi
  · obtain rfl | hraises | ⟨r, rest, -, -, rfl⟩ := exec_encode_cases h
    · exact ⟨rfl, rfl, rfl, rfl, rfl, rfl⟩
    · exact hraises.sameOperands
    · exact ⟨rfl, rfl, rfl, rfl, rfl, rfl⟩
  · obtain rfl | hraises | ⟨r, rest, -, -, -, rfl⟩ := exec_decode_cases h
    · exact ⟨rfl, rfl, rfl, rfl, rfl, rfl⟩
    · exact hraises.sameOperands
    · exact ⟨rfl, rfl, rfl, rfl, rfl, rfl⟩

theorem isStream_cases (i : Instr) : i.isStream = false ∨ i = .encode ∨ i = .decode := by
  cases i <;> simp [Instr.isStream]

theorem coreStep_sameOperands {s t : State} (h : coreStep s = .next t) : SameOperands s t := by
  obtain hframe | ⟨e, u, hframe, rfl | rfl⟩ := coreStep_runsOnOrEnds h
  · rw [hframe]; exact ⟨rfl, rfl, rfl, rfl, rfl, rfl⟩
  · rw [hframe]; simp [SameOperands]
  · rw [hframe]; simp [SameOperands]

end Commands

/-! ## The statements on commands -/

/-- Settles O47, by the ways a command that is no stream command completes. -/
theorem commandsFinishInOneStep : Obligations.CommandsFinishInOneStep := by
  unfold Obligations.CommandsFinishInOneStep
  intro i s t hi h
  cases exec_completes hi h with
  | nop hi | keygenFails hi | keygen hi => subst hi; exact ⟨rfl, rfl, rfl, rfl, .inl rfl⟩
  | clr hi => subst hi; exact ⟨rfl, rfl, rfl, rfl, .inr rfl⟩
  | result hi | noKeys hi => exact ⟨rfl, rfl, rfl, (decide_eq_true hi.2.1).symm, .inl rfl⟩

/-- Settles O48: of the completions without KEYGEN only `Completes.noKeys` is an error. -/
theorem primitiveErrorsArePrecise : Obligations.PrimitiveErrorsArePrecise := by
  unfold Obligations.PrimitiveErrorsArePrecise
  intro i s t hi hkeygen h herr
  cases exec_completes hi h with
  | nop | clr | result => exact absurd rfl herr
  | keygenFails hi | keygen hi => exact absurd hi hkeygen
  | noKeys => rfl

/-- A result of at most 24 bits has the upper byte 0 (10_state.md R28). -/
theorem extractLsb'_high_of_lt {v : Word} (hv : v.toNat < 2 ^ 24) : v.extractLsb' 24 8 = 0 := by
  apply BitVec.eq_of_toNat_eq
  simp only [BitVec.extractLsb'_toNat, Nat.shiftRight_eq_div_pow, Nat.div_eq_of_lt hv]
  rfl

/-- Settles O49: only `Completes.result` writes DOUT. -/
theorem doutWrittenOnlyOnSuccess : Obligations.DoutWrittenOnlyOnSuccess := by
  unfold Obligations.DoutWrittenOnlyOnSuccess
  refine ⟨fun i s t h => ?_, fun s rest v => hostWrite_unguarded (i := 6) rfl v (s.awaiting rest), rfl⟩
  obtain hi | hi := isStream_cases i
  · cases exec_completes hi h with
    | nop hi | clr hi | keygenFails hi | keygen hi => subst hi; simp
    | result hprim hv =>
      obtain ⟨hnop, hclr, hkeygen⟩ := hprim
      refine ⟨fun herr => absurd rfl herr, fun hsilent => ?_, fun _ _ _ _ _ _ => extractLsb'_high_of_lt hv⟩
      obtain h | rfl | rfl | h | h := hsilent
      · exact absurd h hkeygen
      · cases hi
      · cases hi
      · exact absurd h hnop
      · exact absurd h hclr
    | noKeys hi => simp
  · obtain ⟨-, -, -, -, -, hdout⟩ := exec_stream_sameOperands hi h
    exact ⟨fun _ => hdout, fun _ => hdout, fun _ henc hdec => absurd hi (by simp [henc, hdec])⟩

/-- Settles O50: every completion, start step and CORE step has the operands as they were. -/
theorem operandsWrittenByHostOnly : Obligations.OperandsWrittenByHostOnly := by
  unfold Obligations.OperandsWrittenByHostOnly
  refine ⟨fun i s t h => ?_, fun s t => coreStep_sameOperands⟩
  obtain hi | hi := isStream_cases i
  · cases exec_completes hi h <;> exact ⟨rfl, rfl, rfl, rfl, rfl⟩
  · obtain ⟨hkey, hnr, hdin, hsk, hlen, -⟩ := exec_stream_sameOperands hi h
    exact ⟨hkey, hnr, hdin, hsk, hlen⟩

/-- Settles O52: KEYGEN alone of these commands writes the file, and a CORE step only where it ends the command. -/
theorem roundKeysImmutableAfterCreation : Obligations.RoundKeysImmutableAfterCreation := by
  unfold Obligations.RoundKeysImmutableAfterCreation
  refine ⟨fun i s t hkeygen hi h => ?_, fun s t h hb => ?_⟩
  · cases exec_completes hi h with
    | keygenFails hi | keygen hi => exact absurd hi hkeygen
    | nop | clr | result | noKeys => exact ⟨rfl, rfl, rfl⟩
  · obtain hframe | ⟨e, u, -, rfl | rfl⟩ := coreStep_runsOnOrEnds h
    · rw [hframe]; exact ⟨rfl, rfl, rfl⟩
    · simp at hb
    · simp at hb

section Streams

/-! ## The parameters and the host's streams (20_memory.md R51, R52, R65) -/

/-- From `s` to `t` the parameters and the input stream are as they were, and a trusted output has grown by at most a byte, or is a
start step's new one. -/
def StreamsFrame (s t : State) : Prop :=
  t.cfg = s.cfg ∧ t.env.input = s.env.input
  ∧ (t.env.outputTrusted = true → t.env.output = s.env.output ∨ (∃ b, t.env.output = s.env.output ++ [b])
      ∨ (t.env.output = [] ∧ s.st.busy = false ∧ t.st.busy = true))

theorem Advances.output {s t : State} {rest : List Answer} (h : Advances s rest t) :
    t.env.output = s.env.output ∨ ∃ b, t.env.output = s.env.output ++ [b] := by
  cases h with
  | encHdr | encByte | encGroup | decByte | decGroup => exact .inr ⟨_, rfl⟩
  | decEnd => exact .inr ⟨groupByte s.buf s.st.bidx, by simp [byteWritten]⟩
  | encTake | decHdr | decTake => exact .inl rfl
  | encEnd | decLone | decFormat => exact .inl (by simp)

theorem coreStep_streamsFrame {s t : State} (h : coreStep s = .next t) : StreamsFrame s t := by
  have hkept : t.cfg = s.cfg ∧ t.env.input = s.env.input := by
    obtain hframe | ⟨e, u, hframe, rfl | rfl⟩ := coreStep_runsOnOrEnds h
    · rw [hframe]; exact ⟨rfl, rfl⟩
    · rw [hframe]; simp
    · rw [hframe]; simp
  refine ⟨hkept.1, hkept.2, fun htrusted => ?_⟩
  obtain ⟨-, rfl⟩ | ⟨rest, -, -, rfl⟩ | ⟨rest, -, -, hadv⟩ := coreStep_next h
  · exact .inl rfl
  · simp at htrusted
  · exact hadv.output.imp_right .inl

theorem StartRaises.streamsFrame {s t : State} (h : StartRaises s t) : StreamsFrame s t := by
  obtain ⟨e, u, rfl, -, -, hframe⟩ := h
  refine ⟨?_, ?_, fun htrusted => by simp at htrusted⟩
  · rw [streamRaise_cfg, hframe]; rfl
  · rw [streamRaise_env_input, hframe]

theorem exec_streamsFrame {i : Instr} {s t : State} (h : exec i s = .next t) (hb : s.st.busy = false) : StreamsFrame s t := by
  obtain hi | rfl | rfl := isStream_cases i
  · cases exec_completes hi h <;> exact ⟨rfl, rfl, fun _ => .inl rfl⟩
  · obtain rfl | hraises | ⟨r, rest, -, -, rfl⟩ := exec_encode_cases h
    · exact ⟨rfl, rfl, fun _ => .inl rfl⟩
    · exact hraises.streamsFrame
    · exact ⟨rfl, rfl, fun _ => .inr (.inr ⟨rfl, hb, rfl⟩)⟩
  · obtain rfl | hraises | ⟨r, rest, -, -, -, rfl⟩ := exec_decode_cases h
    · exact ⟨rfl, rfl, fun _ => .inl rfl⟩
    · exact hraises.streamsFrame
    · exact ⟨rfl, rfl, fun _ => .inr (.inr ⟨rfl, hb, rfl⟩)⟩

theorem hostWrite_streamsFrame {i : Fin 64} {v : Word} {s t : State} (h : hostWrite i v s = .next t) : StreamsFrame s t := by
  obtain ⟨-, ho⟩ | ⟨-, -, ho⟩ | ⟨-, hb, hissue⟩ | ⟨-, -, ho⟩ | ⟨-, -, ho⟩ | ⟨-, -, ho⟩ | ⟨-, -, ho⟩ | ⟨-, -, ho⟩ :=
    hostWrite_cases h
  case inr.inr.inl =>
    obtain ⟨i, -, hexec⟩ | ⟨e, -, ho⟩ := issue_cases hissue
    · exact exec_streamsFrame hexec hb
    · cases ho; exact ⟨rfl, rfl, fun _ => .inl rfl⟩
  all_goals cases ho; exact ⟨rfl, rfl, fun _ => .inl rfl⟩

theorem hostAct_streamsFrame {a : HostAction} {s t : State} (h : hostAct a s = .next t) (ha : ∀ bs, a ≠ .supplyInput bs) :
    StreamsFrame s t := by
  cases a with
  | write i v => exact hostWrite_streamsFrame h
  | read i => cases h; exact ⟨rfl, rfl, fun _ => .inl rfl⟩
  | poll =>
    cases h
    unfold hostPoll
    split <;> exact ⟨rfl, rfl, fun _ => .inl rfl⟩
  | coreTurn => exact coreStep_streamsFrame h
  | reset => cases h; exact ⟨rfl, by simp [hostReset], fun _ => .inl (by simp [hostReset])⟩
  | supplyInput bs => exact absurd rfl (ha bs)

end Streams

/-- Settles O39: the frame of every event but the host's own supply of its input stream. -/
theorem streamsAndParametersFrame : Obligations.StreamsAndParametersFrame := by
  unfold Obligations.StreamsAndParametersFrame
  intro s t h
  obtain ⟨-, hcore⟩ | ⟨a, rest, ha, hact⟩ := step_cases h
  · obtain ⟨hcfg, hinput, houtput⟩ := coreStep_streamsFrame hcore
    exact ⟨hcfg, .inl hinput, houtput⟩
  · by_cases hsupply : ∃ bs, a = .supplyInput bs
    · obtain ⟨bs, rfl⟩ := hsupply
      cases hostSupply_next hact
      exact ⟨rfl, .inr ⟨bs, rest, ha, rfl⟩, fun _ => .inl rfl⟩
    · obtain ⟨hcfg, hinput, houtput⟩ := hostAct_streamsFrame hact fun bs heq => hsupply ⟨bs, heq⟩
      exact ⟨hcfg, .inl hinput, houtput⟩

/-! ## Reset (10_state.md R45; 70_reset_and_hazards.md R230 to R233) -/

/-- Settles O53: the reset values, the closes, and CONFIG for the KEYGEN that follows. -/
theorem resetAction : Obligations.ResetAction := by
  unfold Obligations.ResetAction
  intro s rest
  refine ⟨hostReset (s.awaiting rest), rfl, rfl, rfl, rfl, rfl, rfl, rfl, rfl, rfl, rfl, rfl, rfl, zeroRk_getElem, rfl,
    (by decide : statusWord Status.reset = 0), rfl, ?_, ?_, ?_, ?_, ?_, rfl, fun hb => if_pos hb, _,
    exec_keygen_config (.inl Nat.zero_lt_one), rfl⟩
  · simp [hostReset, State.awaiting]
    split <;> split <;> simp
  all_goals simp [hostReset, State.awaiting]

/-- Settles O54: no schedule and NR = 0 after reset; a second reset finds every port closed. -/
theorem afterReset : Obligations.AfterReset := by
  unfold Obligations.AfterReset
  have hnone : schedule State.reset.cfg State.reset.key State.reset.nr = none := by decide
  refine ⟨fun i hi => ?_, fun i j hi => ?_, fun s => rfl, rfl, rfl, rfl⟩
  · obtain rfl | hi := hi
    · exact ⟨_, exec_keygen_config (.inl Nat.zero_lt_one), rfl⟩
    · exact ⟨_, exec_stream_config hi hnone, by simp⟩
  · obtain rfl | rfl | rfl | rfl | rfl | rfl := hi
    · exact ⟨_, exec_block_noKeys (by simp) rfl, rfl, rfl⟩
    · exact ⟨_, exec_block_noKeys (by simp) rfl, rfl, rfl⟩
    · exact ⟨_, exec_block_noKeys (by simp) rfl, rfl, rfl⟩
    · exact ⟨_, exec_block_noKeys (by simp) rfl, rfl, rfl⟩
    · exact ⟨_, exec_feistelk_noKeys (Nat.zero_le _), rfl, rfl⟩
    · exact ⟨_, exec_roundk_noKeys (Nat.zero_le _), rfl, rfl⟩

/-! ## The step and STATUS (60_exceptions.md R217; 10_state.md R22) -/

/-- Settles O6: the placed word is the next CMD write; the rest is `step` itself. -/
theorem stepTakesNextEvent : Obligations.StepTakesNextEvent := by
  unfold Obligations.StepTakesNextEvent
  refine ⟨fun s w i hb hw => ?_, fun s hact => ⟨step_of_no_actions hact, fun hp => step_of_stopped ⟨hact, hp⟩⟩, fun s a rest => rfl⟩
  have hword : BitVec.ofNat 32 (w.toNat % 2 ^ 32) = w := by
    rw [Nat.mod_eq_of_lt w.isLt, BitVec.ofNat_toNat, BitVec.setWidth_eq]
  have hdecode : decode w = .ok i := by
    rw [decodeTableWord, hword] at hw
    cases hd : decode w with
    | ok j => rw [hd] at hw; cases hw; rfl
    | error e => rw [hd] at hw; cases hw
  refine ⟨hdecode, ?_⟩
  calc step (s.withFetchWord 32 w.toNat)
    _ = hostWrite 0 (BitVec.ofNat 32 (w.toNat % 2 ^ 32)) s := rfl
    _ = exec i s := by rw [hword, hostWrite_cmd w hb, issue_legal hdecode]

/-- A field that stands wholly above the low part `y` is read in the part above it. -/
theorem extractLsb'_append_above {m n start width : Nat} (x : BitVec m) (y : BitVec n) :
    (x ++ y).extractLsb' (start + n) width = x.extractLsb' start width := by
  rw [BitVec.extractLsb'_append_eq_of_le (Nat.le_add_left n start), Nat.add_sub_cancel]

/-- Settles O10: a field's bits stand above those of the fields below it. -/
theorem statusWordLayout : Obligations.StatusWordLayout := by
  unfold Obligations.StatusWordLayout
  refine ⟨fun st => ?_, rfl, rfl, rfl, rfl, rfl, rfl, rfl, rfl, rfl, rfl, rfl, rfl, rfl, rfl, rfl⟩
  refine ⟨?_, ?_, ?_, ?_, ?_, ?_, ?_, ?_, ?_, ?_, ?_, extractLsb'_statusWord_high st⟩
  case refine_5 | refine_6 | refine_7 | refine_8 | refine_9 =>
    repeat refine (extractLsb'_append_above _ _).trans ?_
    exact BitVec.extractLsb'_append_eq_right
  all_goals simp only [statusWord, BitVec.getLsbD_append]; simp

end Sys2Proof.Machine
